-- ==== Sys2Proof/Word.lean ====
section
/-! DEFINITION. The words of the part: bytes of the appliance port, bits of the group line, station numbers. -/

namespace Sys2Proof

/-- One byte of the appliance port (10, R162). -/
abbrev Byte := BitVec 8

/-- One bit of the group line as read or driven: `true` is recessive (a 1), `false` dominant (a 0) (01, R1). -/
abbrev Bit := Bool

/-- A station of the bank, by the station field of the key: its station number minus 1 (01, R7). -/
abbrev Station := Fin 16

end Sys2Proof
end

