-- ==== Sys2Proof/Config.lean ====
section
/-! DEFINITION. What the manual leaves open: constants without a body, so that nothing can be proved of their values. -/

namespace Sys2Proof

/-- Which of several events of the station's own timers that fall together is taken first (log 5). -/
opaque Config.freeChoice : Nat → Nat

/-- Whether a write that the idle machine completes at its bound reads back as it was written (log 25). -/
opaque Config.freeReadBack : Nat → Bool

/-- A remaining time that no rule states: remaining dry and remaining cool after R155 (log 11). -/
opaque Config.freeSeconds : Nat → Nat

/-- The 32-bit check of a checkpoint record, computed over every other field (08, R132); its algorithm is
not stated (log 10). -/
opaque Config.checkpointCheck : List Byte → BitVec 32

end Sys2Proof
end

