-- ==== Sys2Proof/Syntax.lean ====
section
/-! DEFINITION. The commands: one constructor of `Instr` per row of spec/opcode_table.json, in the table's order.
The table gives the rows no operands; each operand here is what the row's rules need from outside (INVENTORY.md,
Instructions). -/

namespace Sys2Proof

/-- The inputs the input monitor debounces (10, R174). -/
inductive Input where
  | door
  | exhaustHot
  | highLimit
  | mains
deriving DecidableEq, Repr

/-- The two heater stages (06, R106). -/
inductive HeatStage where
  | one
  | two
deriving DecidableEq, Repr

/-- One command: an event on the group line, the appliance port or a direct line, or the expiry of one of the
station's own timers. -/
inductive Instr where
  /-- 01 R5. The line unit asks for a frame and drives its start mark. -/
  | transmissionStart
  /-- 01 R16, R18. Six dominant bit times seen; `inSlot`: the run began within the verdict slot of the frame in
  hand (it is read only in VERDICT). -/
  | startMarkRecognised (inSlot : Bool)
  /-- 01 R8. Dominant read on a key bit driven recessive. -/
  | arbitrationLost
  /-- 01 R9. Dominant read on a body bit driven recessive; `startMark`: the run reached 6 bit times. -/
  | payloadLoss (startMark : Bool)
  /-- 01 R9. Any other mismatch; `startMark`: the dominant run that began it reached 6 bit times before the slot. -/
  | interference (startMark : Bool)
  /-- 01 R16. The three kind bits read give 5, 6 or 7. -/
  | invalidKindAbandon (kind : BitVec 3)
  /-- 01 R16, R20. The closing spacer has ended; `bits`: every bit time from the first key bit to the closing
  spacer, as this station read them. -/
  | closingSpacerEnd (bits : List Bit)
  /-- 01 R20, R21. The verdict slot has ended; `first`, `second`: the line was dominant at the sample point of
  that bit time (besides what this station drives itself). -/
  | verdictSlotEnd (first second : Bool)
  /-- 01 R4. -/
  | lineIdle
  /-- 01 R6. -/
  | courtesyGapEnd
  /-- 01 R23. -/
  | lineStuck
  /-- 01 R23. -/
  | stuckCleared
  /-- 02 R29. -/
  | laneSpacingExpiry
  /-- 02 R42. -/
  | entryAgedLost (station : Station)
  /-- 03 R53. -/
  | listenTimerExpiry
  /-- 03 R64. -/
  | censusTimerExpiry
  /-- 03 R62. -/
  | standingTimerExpiry
  /-- 10 R166, Table 1-4: the five data bytes. Bytes clocked beyond those a request takes are no operand: the
  part ignores them and shifts out 00h for each (10, R162; `Port.onSdo`). -/
  | configure (budget spacing reheat limit trigger : Byte)
  /-- 04 R73, Table 1-4: the seven data bytes, the window in two, the highest first (01, R26). -/
  | beginCycle (dryTime stages coolTime : Byte) (window : BitVec 16) (burst rest : Byte)
  /-- 04 R81. -/
  | trim (minutes : Byte)
  /-- 04 R89. -/
  | cancel
  /-- 08 R144. -/
  | clear
  /-- 10 R169; `straps`: the levels of STN0..STN3 at the request. -/
  | stationReset (straps : BitVec 4)
  /-- 10 R167. -/
  | readStanding
  /-- 10 R167. -/
  | readRoster
  /-- 10 R168. -/
  | readCheckpoint
  /-- 10 R171. -/
  | takeNotice
  /-- 10 R163: the command byte, none of Table 1-4. -/
  | unknownCommand (command : Byte)
  /-- 10 R163: the command byte and how many data bytes counted. -/
  | incompleteRequest (command : Byte) (counted : Nat)
  /-- 10 R165: how many whole bytes the exchange clocked. -/
  | requestWhileBusy (bytes : Nat)
  /-- 10 R164: how many whole bytes were clocked after the fetch byte. -/
  | replyFetch (bytes : Nat)
  /-- 04 R78. -/
  | creditSecond
  /-- 04 R83. -/
  | endOfCooling
  /-- 04 R80. -/
  | heatStarved
  /-- 04 R92. -/
  | checkpointTimerExpiry
  /-- 05 R95. -/
  | restExpiry
  /-- 05 R98. -/
  | burstEnd
  /-- 05 R99. -/
  | windowExpiry
  /-- 10 R174: the input and the level its pin has held for 5 ms. -/
  | inputChange (input : Input) (active : Bool)
  /-- 06 R107. -/
  | heatMinOffElapsed (stage : HeatStage)
  /-- 06 R109. -/
  | heatMinOnReached (stage : HeatStage)
  /-- 06 R110. -/
  | thermostatGraceExpiry
  /-- 06 R113. -/
  | motorMinOffElapsed
  /-- 06 R114, R115. -/
  | tachPulse
  /-- 06 R114. -/
  | noRotation
  /-- 06 R115. -/
  | rotationLost
  /-- 07 R123. -/
  | mainsDeclaredAbsent
  /-- 07 R121. -/
  | qualifyDrop
  /-- 07 R119. -/
  | settleExpiry
  /-- 07 R120. -/
  | endOfQualification
  /-- 07 R125. -/
  | rideTimerExpiry
  /-- 07 R127: the level BACKUP LOW is taken at; `false` only records that the warning is gone. -/
  | backupCollapse (low : Bool)
  /-- 07 R118; `straps`: the levels of STN0..STN3. -/
  | powerApplied (straps : BitVec 4)
  /-- 07 R131; `straps`: the levels of STN0..STN3. -/
  | standbyMainsReturn (straps : BitVec 4)
  /-- 07 R130. -/
  | doorLatchSet
  /-- 08 R141. -/
  | startReadComplete
  /-- 08 R137; `good`: the slot reads back as it was written. -/
  | writeCompletion (good : Bool)
  /-- 08 R145. -/
  | eraseCompletion
  /-- 10 R173. -/
  | agedTimerExpiry
  /-- 01 R4, R5; `recessive`: the recessive bit times counted when the edge came. -/
  | lineGoesDominant (recessive : Nat)
  /-- 01 R8. -/
  | arbitrationWon
deriving DecidableEq, Repr

end Sys2Proof
end

