-- ==== Sys2Proof/Machine/State.lean ====
section
/-! DEFINITION. The state of the part, block by block (00, section 0.4.1), as plain data; its value at reset; and
how a step can stop (it cannot). -/

namespace Sys2Proof.Machine

/-! ## Timers -/

/-- A timer of the station: stopped, running with the milliseconds counted so far, or held at its limit with its
expiry taken. -/
inductive Timer where
  | stopped
  | running (ms : Nat)
  | reached
deriving DecidableEq, Repr

/-! ## The group line (01) -/

/-- The frame kinds (01, R7). -/
inductive Kind where
  | dark
  | drop
  | hold
  | take
  | lane
deriving DecidableEq, Repr

/-- The bodies of the five kinds, field by field in sending order (01, Table 1-3). -/
inductive Body where
  | dark
  | drop (removed after : BitVec 2)
  | hold (standing held : BitVec 2) (budget : BitVec 5) (phaseClass : BitVec 3)
  | take (added after : BitVec 2)
  | lane (reason : BitVec 2)
deriving DecidableEq, Repr

/-- The fields of a frame's key and body; the kind is the body's (01, R7, R25). -/
structure Frame where
  urgency : BitVec 2
  aging : BitVec 4
  station : BitVec 4
  body : Body
deriving DecidableEq, Repr

/-- The own frame as composed: held unchanged until the frame ends (01, R5). -/
structure SentFrame where
  frame : Frame
  check : BitVec 16
deriving DecidableEq, Repr

/-- A frame received to the end of its closing spacer: its fields as read, whether it has an error at this
station, and whether this station drives its verdict slot (01, R16, R20). -/
structure ReceivedFrame where
  frame : Frame
  error : Bool
  objects : Bool
deriving DecidableEq, Repr

/-- The line states (01, R24). -/
inductive LineState where
  | idle
  | arbitrating
  | sending
  | receiving
  | verdict
  | stuck
deriving DecidableEq, Repr

/-- This station's part in the frame in hand (01, R8, R9, R16). -/
inductive Role where
  /-- No frame in hand. -/
  | none
  /-- Sending its own frame. -/
  | sender
  /-- Its own frame counts as voided through interference; it stays in step with that frame's length (R9). -/
  | interfered
  /-- Receiving another station's frame. -/
  | receiver
  /-- Receiving the rest of a frame that used its own key, after payload loss (R9). -/
  | payloadLost
deriving DecidableEq, Repr

/-- The line unit (01, R24). -/
structure LineUnit where
  state : LineState
  role : Role
  sent : Option SentFrame
  received : Option ReceivedFrame
  /-- Recessive bit times known to have passed since the last dominant one; with a frame in VERDICT, those at the
  end of its closing spacer (R4). -/
  recessive : Nat
  /-- The courtesy-gap timer is set (R6). -/
  courtesy : Bool
  score : Nat
deriving DecidableEq, Repr

/-! ## The group roster (02) -/

/-- Presence of an entry (02, R27). -/
inductive Presence where
  | absent
  | present
  | lost
  | dark
deriving DecidableEq, Repr

/-- The standing a HOLD may declare (01, R13). -/
inductive DeclaredStanding where
  | active
  | isolated
deriving DecidableEq, Repr

/-- The phase class of a HOLD (01, R13). -/
inductive PhaseClass where
  | idle
  | dry
  | dryResumed
  | cool
  | crease
  | halted
deriving DecidableEq, Repr

/-- One entry of the roster (02, R27); `none` in a declared field is "none heard". -/
structure Entry where
  presence : Presence
  declaredStanding : Option DeclaredStanding
  held : Nat
  declaredBudget : Option Nat
  phaseClass : Option PhaseClass
  /-- Time since the last accepted frame, in ms; its whole seconds are the last-heard age (R41). -/
  sinceHeard : Nat
  mismatch : Bool
deriving DecidableEq, Repr

/-- The lane's holder and its spacing remaining in ms (02, R29). -/
structure LaneHolder where
  station : Station
  remaining : Nat
deriving DecidableEq, Repr

/-- The group roster (02, R27, R29). -/
structure Roster where
  entries : Vector Entry 16
  lane : Option LaneHolder
deriving DecidableEq, Repr

/-! ## The standing controller (03) -/

/-- The own standing (03, R50). -/
inductive Standing where
  | unconfigured
  | listening
  | active
  | isolated
  | deaf
  | barred
  | dark
deriving DecidableEq, Repr

/-- The configuration (03, R52; 10, R166). -/
structure Configuration where
  budget : Nat
  spacing : Nat
  reheat : Nat
  limit : Nat
  trigger : Nat
deriving DecidableEq, Repr

/-- The pending-send set, kind by kind (03, R63). -/
structure SendSet where
  dark : Bool
  drop : Bool
  hold : Bool
  take : Bool
  lane : Bool
deriving DecidableEq, Repr

/-- The standing controller (03, section 3.6). -/
structure Controller where
  standing : Standing
  config : Option Configuration
  send : SendSet
  census : Timer
  listen : Timer
  /-- The standing timer; running while armed (R62). -/
  unheard : Timer
  waitAge : Nat
  takeVoids : Nat
  shed : Bool
  permit : Nat
deriving DecidableEq, Repr

/-! ## The cycle engine (04, 05) -/

/-- The phases (04, R71). -/
inductive Phase where
  | idle
  | startWait
  | spinup
  | dry
  | cool
  | rest
  | burstWait
  | burst
  | halted
deriving DecidableEq, Repr

/-- The start target (04, R71). -/
inductive Target where
  | none
  | dry
  | cool
deriving DecidableEq, Repr

/-- How a cycle ended (04, Table 4-1). -/
inductive CycleOutcome where
  | none
  | completed
  | collected
  | abandoned
  | cancelled
  | declined
  | faulted
deriving DecidableEq, Repr

/-- The program record (04, R72): minutes, stages, minutes, minutes, seconds, minutes. -/
structure Program where
  dryTime : Nat
  stages : Nat
  coolTime : Nat
  window : Nat
  burst : Nat
  rest : Nat
deriving DecidableEq, Repr

/-- A count of whole seconds with the milliseconds counted towards the next one (05, R93). -/
structure Countdown where
  seconds : Nat
  part : Nat
deriving DecidableEq, Repr

/-- The cycle engine (04, R71; 05, R93). -/
structure Cycle where
  phase : Phase
  target : Target
  program : Option Program
  remainingDry : Nat
  cool : Countdown
  window : Countdown
  rest : Countdown
  burst : Countdown
  resumed : Bool
  heatBarred : Bool
  highLimitSeen : Bool
  resumeCount : Nat
  heatWant : Nat
  laneWant : Option Nat
  motorWanted : Bool
  outcome : CycleOutcome
  /-- Credited ms towards the next credited second (R78). -/
  credit : Nat
  /-- The starvation timer in ms (R80). -/
  starvation : Nat
  starvationReported : Bool
  checkpointTimer : Timer
deriving DecidableEq, Repr

/-! ## The output gate (06) -/

/-- One heater stage (06, R106). -/
structure StageGate where
  on : Bool
  /-- ms since the stage was last energized, held at 10 s. -/
  minOn : Nat
  /-- Running since the stage was last de-energized; `reached` once elapsed. -/
  minOff : Timer
  turnOffPending : Bool
deriving DecidableEq, Repr

/-- What the gate watches TACH for (06, R106). -/
inductive Watch where
  | none
  | confirming
  | running
deriving DecidableEq, Repr

/-- The output gate (06, R106). -/
structure Gate where
  heat1 : StageGate
  heat2 : StageGate
  motor : Bool
  motorMinOff : Timer
  startOrder : Bool
  watch : Watch
  rotation : Timer
  /-- The thermostat grace timer in ms (R110). -/
  grace : Nat
  /-- The thermostat report stands (R110). -/
  report : Bool
  /-- Time has passed since MOTOR was last energized, and so the enable output follows (R116; the model's own field,
  log 1). -/
  pastStart : Bool
deriving DecidableEq, Repr

/-! ## The supply monitor (07) -/

/-- The power state (07, R117). -/
inductive Power where
  | off
  | settle
  | qualify
  | run
  | ride
  | standby
deriving DecidableEq, Repr

/-- The supply monitor (07, R117). -/
structure Supply where
  power : Power
  absence : Timer
  qualification : Timer
  settle : Timer
  ride : Timer
  /-- The outage clock in seconds, or none (R129). -/
  outage : Option Nat
  outagePart : Nat
  outageRunning : Bool
  doorLatch : Bool
  warm : Bool
  finalWanted : Bool
  /-- DARK SENT has been taken in this RIDE (R125). -/
  darkSent : Bool
  /-- The end of RIDE waits for the own frame in flight (R125). -/
  rideHeld : Bool
deriving DecidableEq, Repr

/-! ## The checkpoint journal (08) -/

/-- A checkpoint record (08, R132). -/
structure Record where
  sequence : BitVec 32
  station : Station
  config : Configuration
  phase : Phase
  target : Target
  program : Option Program
  remainingDry : Nat
  remainingCool : Nat
  windowRemaining : Nat
  restRemaining : Nat
  burstRemaining : Nat
  resumeCount : Nat
  resumed : Bool
  heatBarred : Bool
  highLimitSeen : Bool
  outcome : CycleOutcome
  check : BitVec 32
deriving DecidableEq, Repr

/-- What a slot holds (08, R133): nothing, the fields of a record with a check that may or may not agree with them, or
what a write or an erase cut off has left, which fails its check (R140). -/
inductive Slot where
  | erased
  | record (r : Record)
  | torn
deriving DecidableEq, Repr

/-- The names of the slots (08, R134). -/
inductive SlotName where
  | a
  | b
deriving DecidableEq, Repr

/-- The operation in flight (08, R134); a write carries the record fixed when it began (R136). -/
inductive Operation where
  | write (slot : SlotName) (record : Record)
  | erase (slot : SlotName)
deriving DecidableEq, Repr

/-- The checkpoint journal (08, R134). -/
structure Journal where
  slotA : Slot
  slotB : Slot
  operation : Option Operation
  /-- ms since the operation, or the start read, began. -/
  elapsed : Nat
  pendingWrite : Bool
  retry : Bool
  eraseQueued : Bool
  newest : Option SlotName
  newestSequence : Option (BitVec 32)
  tornA : Bool
  tornB : Bool
  /-- The start read is in progress (R141). -/
  startRead : Bool
deriving DecidableEq, Repr

/-! ## The appliance port and the notice queue (10) -/

/-- The port states (10, R163). -/
inductive PortState where
  | idle
  | receiving
  | executing
  | replyReady
deriving DecidableEq, Repr

/-- The requests that can be held in EXECUTING (10, R163). -/
inductive HeldRequest where
  | clear
  | stationReset
  | readCheckpoint
deriving DecidableEq, Repr

/-- The appliance port (10, R163). -/
structure Port where
  state : PortState
  held : Option HeldRequest
  reply : List Byte
  /-- The bytes shifted out on SDO in the last exchange; in a reply exchange, those after the fetch byte. Of a request
  they go to its last data byte, and every byte clocked after it is 00h (10, R162; `Port.onSdo`). -/
  sdo : List Byte
deriving DecidableEq, Repr

/-- The notice kinds (10, R170). -/
inductive NoticeKind where
  | resume
  | phase
  | cycleEnd
  | standing
  | fault
  | budgetMismatch
  | lost
  | excessShed
  | heatStarved
  | tornSlot
  | inputChange
deriving DecidableEq, Repr

/-- The fault kinds, the values of a FAULT notice (01, Table 1-6). -/
inductive FaultKind where
  | noRotation
  | rotationLost
  | highLimit
  | duplicateStation
  | lineStuck
  | selfShed
  | deaf
deriving DecidableEq, Repr

/-- A notice (10, R170). -/
structure Notice where
  kind : NoticeKind
  station : Station
  phase : Phase
  value : Option Nat
deriving DecidableEq, Repr

/-- The notice queue (10, R171 to R173), oldest first. -/
structure NoticeQueue where
  queue : List Notice
  overflow : Bool
  attn : Bool
  aged : Timer
deriving DecidableEq, Repr

/-! ## The input monitor and the pins (10) -/

/-- One bit for each input of the input monitor; true is active, or changed. -/
structure Levels where
  door : Bool
  exhaustHot : Bool
  highLimit : Bool
  mains : Bool
deriving DecidableEq, Repr

/-- The input monitor (10, R174). -/
structure InputMonitor where
  level : Levels
  delta : Levels
deriving DecidableEq, Repr

/-- The input pins as they stand, for the rules that look at a pin itself (07, R126, R127, R130, R131; 10, R175;
01, R24). -/
structure Pins where
  level : Levels
  backupLow : Bool
  straps : BitVec 4
deriving DecidableEq, Repr

/-! ## The resume items (09) -/

/-- The reset paths (09, R146). -/
inductive ResetPath where
  | power
  | ret
  | stationReset
deriving DecidableEq, Repr

/-- Last outage: none, unknown, or seconds (09, R148). -/
inductive Outage where
  | none
  | unknown
  | seconds (t : Nat)
deriving DecidableEq, Repr

/-- The outage classes (09, R149). -/
inductive OutageClass where
  | short
  | medium
  | long
deriving DecidableEq, Repr

/-- The path in hand, whether its decision has been made, and the items READ STANDING returns (09, R146, R148). -/
structure Resume where
  path : ResetPath
  decided : Bool
  lastOutage : Outage
  lastClass : Option OutageClass
deriving DecidableEq, Repr

/-! ## The part and the machine -/

/-- Everything the spec gives the part, block by block. -/
structure Part where
  station : Station
  line : LineUnit
  roster : Roster
  ctl : Controller
  cyc : Cycle
  gate : Gate
  sup : Supply
  jrn : Journal
  port : Port
  ntc : NoticeQueue
  inp : InputMonitor
  res : Resume
  pins : Pins
  /-- The model's own counter for fresh free values (log 5). -/
  freeCount : Nat
deriving DecidableEq, Repr

/-- The machine: the part, and the commands that wait, first in, first out. -/
structure State extends Part where
  pending : List Instr
deriving DecidableEq, Repr

/-- Why a step can stop with a fault: never. The spec ends no event in a stop, so there is no constructor. -/
inductive Fault : Type where
deriving DecidableEq, Repr

/-- Why a step can refuse: only a command without a meaning. -/
inductive Refusal where
  /-- Raised by an arm of `exec` for a row that has no meaning yet, and by nothing else; no arm raises it.
  It would be safe: the machine stops. -/
  | notModelled (mnemonic : String)
deriving DecidableEq, Repr

/-! ## Start values: what each block takes when a reset path begins -/

/-- 01, R24. -/
def LineUnit.start : LineUnit where
  state := .idle
  role := .none
  sent := none
  received := none
  recessive := 0
  courtesy := false
  score := 0

/-- 02, R28: an age of 255 s. -/
def Entry.start : Entry where
  presence := .absent
  declaredStanding := none
  held := 0
  declaredBudget := none
  phaseClass := none
  sinceHeard := 255000
  mismatch := false

/-- 02, R28, R29. -/
def Roster.start : Roster where
  entries := Vector.replicate 16 Entry.start
  lane := none

/-- No kind waits. -/
def SendSet.empty : SendSet := ⟨false, false, false, false, false⟩

/-- 03, section 3.6. -/
def Controller.start : Controller where
  standing := .unconfigured
  config := none
  send := SendSet.empty
  census := .stopped
  listen := .stopped
  unheard := .stopped
  waitAge := 0
  takeVoids := 0
  shed := false
  permit := 0

/-- 04, R71; 05, R93. -/
def Cycle.start : Cycle where
  phase := .idle
  target := .none
  program := none
  remainingDry := 0
  cool := ⟨0, 0⟩
  window := ⟨0, 0⟩
  rest := ⟨0, 0⟩
  burst := ⟨0, 0⟩
  resumed := false
  heatBarred := false
  highLimitSeen := false
  resumeCount := 0
  heatWant := 0
  laneWant := none
  motorWanted := false
  outcome := .none
  credit := 0
  starvation := 0
  starvationReported := false
  checkpointTimer := .stopped

/-- 06, R106: a stage that is off, its min-off running from 0. -/
def StageGate.start : StageGate where
  on := false
  minOn := 0
  minOff := .running 0
  turnOffPending := false

/-- 06, R106. -/
def Gate.start : Gate where
  heat1 := StageGate.start
  heat2 := StageGate.start
  motor := false
  motorMinOff := .running 0
  startOrder := false
  watch := .none
  rotation := .stopped
  grace := 0
  report := false
  pastStart := false

/-- 07, R117, first column: the cold entry to SETTLE. -/
def Supply.cold : Supply where
  power := .settle
  absence := .stopped
  qualification := .stopped
  settle := .running 0
  ride := .stopped
  outage := none
  outagePart := 0
  outageRunning := false
  doorLatch := false
  warm := false
  finalWanted := false
  darkSent := false
  rideHeld := false

/-- 08, R134, with the two slots as they stand: the start read has begun. -/
def Journal.start (a b : Slot) : Journal where
  slotA := a
  slotB := b
  operation := none
  elapsed := 0
  pendingWrite := false
  retry := false
  eraseQueued := false
  newest := none
  newestSequence := none
  tornA := false
  tornB := false
  startRead := true

/-- 10, R163. -/
def Port.start : Port where
  state := .idle
  held := none
  reply := []
  sdo := []

/-- 10, R171. -/
def NoticeQueue.start : NoticeQueue where
  queue := []
  overflow := false
  attn := false
  aged := .stopped

/-- 10, R175: the levels from the pins, a delta flag for each active input. -/
def InputMonitor.preset (pins : Pins) : InputMonitor where
  level := pins.level
  delta := pins.level

/-- 09, R148. -/
def Resume.start (path : ResetPath) : Resume where
  path := path
  decided := false
  lastOutage := .none
  lastClass := none

/-- The pins at reset: MAINS active (10, R175), the straps of station 1, the other inputs inactive (log 6). -/
def Pins.reset : Pins where
  level := ⟨false, false, false, true⟩
  backupLow := false
  straps := 1

/-- The part at the start of the POWER path (09, R146; log 6), with both slots erased (log 7). -/
def Part.reset : Part where
  station := 0
  line := LineUnit.start
  roster := Roster.start
  ctl := Controller.start
  cyc := Cycle.start
  gate := Gate.start
  sup := Supply.cold
  jrn := Journal.start .erased .erased
  port := Port.start
  ntc := NoticeQueue.start
  inp := InputMonitor.preset Pins.reset
  res := Resume.start .power
  pins := Pins.reset
  freeCount := 0

/-- The machine right after reset: the part at the start of the POWER path, no command waiting. -/
def State.reset : State where
  toPart := Part.reset
  pending := []

end Sys2Proof.Machine
end

