-- ==== Sys2Proof/Machine/Operands.lean ====
section
/-! DEFINITION. The formats of 01 section 1.10: the bits of a frame on the line, the codes of Table 1-6, the bytes of
requests and replies. Every bit order and byte order of the part is decided here, once. -/

namespace Sys2Proof.Machine

/-! ## Bits -/

/-- The bits of a field of `w` bits, highest first (01, R7, R25). -/
def bitsOf : (w : Nat) → Nat → List Bit
  | 0, _ => []
  | w + 1, n => n.testBit w :: bitsOf w n

/-- The number a run of bits spells, highest bit first. -/
def numberOf (bits : List Bit) : Nat := bits.foldl (fun n b => 2 * n + b.toNat) 0

/-- A field of `w` bits read from the line, highest bit first. -/
def fieldOf (w : Nat) (bits : List Bit) : BitVec w := BitVec.ofNat w (numberOf bits)

/-! ## Frames on the line (01, R2, R7, R11 to R17, R25) -/

/-- The kind of a frame (01, R7). -/
def Frame.kind (f : Frame) : Kind :=
  match f.body with
  | .dark => .dark
  | .drop _ _ => .drop
  | .hold _ _ _ _ => .hold
  | .take _ _ => .take
  | .lane _ => .lane

/-- The code of a kind in the key (01, Table 1-2). -/
def Kind.code : Kind → Nat
  | .dark => 0
  | .drop => 1
  | .hold => 2
  | .take => 3
  | .lane => 4

/-- The kind a code of the key stands for; none for 5, 6 and 7 (01, R16). -/
def Kind.ofCode : Nat → Option Kind
  | 0 => some .dark
  | 1 => some .drop
  | 2 => some .hold
  | 3 => some .take
  | 4 => some .lane
  | _ => none

/-- Bits of the body of a kind (01, Table 1-3). -/
def Kind.bodyBits : Kind → Nat
  | .dark => 0
  | .drop => 4
  | .hold => 12
  | .take => 4
  | .lane => 2

/-- The body's bits in sending order (01, Table 1-3). -/
def Body.bits : Body → List Bit
  | .dark => []
  | .drop removed after => bitsOf 2 removed.toNat ++ bitsOf 2 after.toNat
  | .hold standing held budget phaseClass =>
    bitsOf 2 standing.toNat ++ bitsOf 2 held.toNat ++ bitsOf 5 budget.toNat ++ bitsOf 3 phaseClass.toNat
  | .take added after => bitsOf 2 added.toNat ++ bitsOf 2 after.toNat
  | .lane reason => bitsOf 2 reason.toNat

/-- The thirteen key bits (01, Table 1-2). -/
def Frame.keyBits (f : Frame) : List Bit :=
  bitsOf 3 f.kind.code ++ bitsOf 2 f.urgency.toNat ++ bitsOf 4 f.aging.toNat ++ bitsOf 4 f.station.toNat

/-- Key and body in sending order: what the check covers (01, R17). -/
def Frame.coveredBits (f : Frame) : List Bit := f.keyBits ++ f.body.bits

/-- One bit through the check register (01, R17). -/
def checkStep (register : BitVec 16) (bit : Bit) : BitVec 16 :=
  if bit = register.msb then register <<< 1 else (register <<< 1) ^^^ 0x1B2F#16

/-- The check over key and body bits (01, R17): the register starts at all ones. -/
def checkOf (bits : List Bit) : BitVec 16 := bits.foldl checkStep 0xFFFF#16

/-- A spacer after every fourth frame bit and a closing spacer, each the complement of the bit before it
(01, R2). -/
def withSpacers : List Bit → List Bit
  | [] => []
  | [a] => [a, !a]
  | [a, b] => [a, b, !b]
  | [a, b, c] => [a, b, c, !c]
  | a :: b :: c :: d :: rest => a :: b :: c :: d :: (!d) :: withSpacers rest

/-- The frame bits among the bits read, and whether some spacer had the value of the bit before it (01, R2). -/
def withoutSpacers : List Bit → List Bit × Bool
  | a :: b :: c :: d :: e :: rest =>
    ((a :: b :: c :: d :: (withoutSpacers rest).1), (d == e) || (withoutSpacers rest).2)
  | [a, b, c, e] => ([a, b, c], c == e)
  | [a, b, e] => ([a, b], b == e)
  | [a, e] => ([a], a == e)
  | [a] => ([a], true)
  | [] => ([], false)

/-- The bits on the line from the first key bit to the closing spacer, for a frame with this check (01, R25). -/
def SentFrame.wireBits (s : SentFrame) : List Bit :=
  withSpacers (s.frame.coveredBits ++ bitsOf 16 s.check.toNat)

/-- The start mark of every frame: 7 bit times dominant and 1 recessive (01, R3, R25). -/
def startMark : List Bit := [false, false, false, false, false, false, false, true]

/-- What a station drives in the two bit times of the verdict slot: a receiver that objects drives both dominant,
every other station, the sender included, leaves them recessive (01, R20, R25). -/
def slotBits (objects : Bool) : List Bit := [!objects, !objects]

/-- Everything a sender drives for a frame, bit time by bit time (01, R25): the start mark, the bits from the first key
bit to the closing spacer, and a recessive verdict slot. -/
def SentFrame.lineBits (s : SentFrame) : List Bit := startMark ++ s.wireBits ++ slotBits false

/-- A frame with the check its sender computes (01, R5, R17). -/
def Frame.composed (f : Frame) : SentFrame := ⟨f, checkOf f.coveredBits⟩

/-- Bits on the line from the first key bit to the closing spacer, by kind (01, R11 to R15). -/
def Kind.wireLength : Kind → Nat
  | .dark => 37
  | .drop => 42
  | .hold => 52
  | .take => 42
  | .lane => 39

/-- The body a receiver reads for a kind (01, Table 1-3). -/
def Body.ofBits (kind : Kind) (bits : List Bit) : Body :=
  match kind with
  | .dark => .dark
  | .drop => .drop (fieldOf 2 (bits.take 2)) (fieldOf 2 ((bits.drop 2).take 2))
  | .hold => .hold (fieldOf 2 (bits.take 2)) (fieldOf 2 ((bits.drop 2).take 2))
      (fieldOf 5 ((bits.drop 4).take 5)) (fieldOf 3 ((bits.drop 9).take 3))
  | .take => .take (fieldOf 2 (bits.take 2)) (fieldOf 2 ((bits.drop 2).take 2))
  | .lane => .lane (fieldOf 2 (bits.take 2))

/-- The FORM conditions of key and body: true when none is met (01, R7, R11 to R15, R19). -/
def Frame.formOk (f : Frame) : Bool :=
  match f.body with
  | .dark => f.urgency == 0 && f.aging == 15
  | .drop removed after =>
    f.urgency == 0 && f.aging == 15 && removed != 0 && removed != 3 && after.toNat < 2 &&
      removed.toNat + after.toNat ≤ 2
  | .hold standing held _ phaseClass =>
    f.urgency == 0 && f.aging == 15 && standing.toNat < 2 && !(standing == 1 && held != 0) && held != 3 &&
      phaseClass.toNat < 6
  | .take added after =>
    f.urgency.toNat < 2 && added != 0 && added != 3 && after != 0 && after != 3 && added.toNat ≤ after.toNat
  | .lane reason => reason != 3 && reason == f.urgency

/-- What a receiver makes of the bits it read to the end of the closing spacer: the frame, and whether it has a
CHECK or FORM error here (01, R16, R17, R19). None when the bits are not those of one of the five kinds. -/
def readFrame (bits : List Bit) : Option (Frame × Bool) :=
  let frameBits := (withoutSpacers bits).1
  match Kind.ofCode (numberOf (frameBits.take 3)) with
  | none => none
  | some kind =>
    if bits.length = kind.wireLength then
      let covered := 13 + kind.bodyBits
      let frame : Frame :=
        { urgency := fieldOf 2 ((frameBits.drop 3).take 2)
          aging := fieldOf 4 ((frameBits.drop 5).take 4)
          station := fieldOf 4 ((frameBits.drop 9).take 4)
          body := Body.ofBits kind ((frameBits.drop 13).take kind.bodyBits) }
      let checkError := checkOf (frameBits.take covered) != fieldOf 16 (frameBits.drop covered)
      some (frame, checkError || (withoutSpacers bits).2 || !frame.formOk)
    else none

/-- Recessive bits at the end of the bits read (01, R4). -/
def trailingRecessive (bits : List Bit) : Nat := (bits.reverse.takeWhile id).length

/-- The station whose entry a station field names (01, R7). -/
def stationOfField (field : BitVec 4) : Station := ⟨field.toNat, field.isLt⟩

/-- The station field of a station (01, R7). -/
def fieldOfStation (s : Station) : BitVec 4 := BitVec.ofNat 4 s.val

/-- The station the straps select: 0 selects station 16 (01, R24). -/
def stationOfStraps (straps : BitVec 4) : Station :=
  ⟨(straps.toNat + 15) % 16, Nat.mod_lt _ (by decide)⟩

/-! ## Codes of Table 1-6 (01) -/

def Standing.code : Standing → Nat
  | .unconfigured => 0
  | .listening => 1
  | .active => 2
  | .isolated => 3
  | .deaf => 4
  | .barred => 5
  | .dark => 6

def DeclaredStanding.code : DeclaredStanding → Nat
  | .active => 0
  | .isolated => 1

def Power.code : Power → Nat
  | .off => 0
  | .settle => 1
  | .qualify => 2
  | .run => 3
  | .ride => 4
  | .standby => 5

def Phase.code : Phase → Nat
  | .idle => 0
  | .startWait => 1
  | .spinup => 2
  | .dry => 3
  | .cool => 4
  | .rest => 5
  | .burstWait => 6
  | .burst => 7
  | .halted => 8

def Target.code : Target → Nat
  | .none => 0
  | .dry => 1
  | .cool => 2

def PhaseClass.code : PhaseClass → Nat
  | .idle => 0
  | .dry => 1
  | .dryResumed => 2
  | .cool => 3
  | .crease => 4
  | .halted => 5

/-- The phase class a HOLD's field declares; 6 and 7 are FORM errors (01, R13). -/
def PhaseClass.ofCode : Nat → Option PhaseClass
  | 0 => some .idle
  | 1 => some .dry
  | 2 => some .dryResumed
  | 3 => some .cool
  | 4 => some .crease
  | 5 => some .halted
  | _ => none

/-- 0 while none (01, Table 1-6; 09, R148). -/
def outageClassCode : Option OutageClass → Nat
  | none => 0
  | some .short => 1
  | some .medium => 2
  | some .long => 3

def CycleOutcome.code : CycleOutcome → Nat
  | .none => 0
  | .completed => 1
  | .collected => 2
  | .abandoned => 3
  | .cancelled => 4
  | .declined => 5
  | .faulted => 6

def Presence.code : Presence → Nat
  | .absent => 0
  | .present => 1
  | .lost => 2
  | .dark => 3

def NoticeKind.code : NoticeKind → Nat
  | .resume => 1
  | .phase => 2
  | .cycleEnd => 3
  | .standing => 4
  | .fault => 5
  | .budgetMismatch => 6
  | .lost => 7
  | .excessShed => 8
  | .heatStarved => 9
  | .tornSlot => 10
  | .inputChange => 11

def FaultKind.code : FaultKind → Nat
  | .noRotation => 1
  | .rotationLost => 2
  | .highLimit => 3
  | .duplicateStation => 4
  | .lineStuck => 5
  | .selfShed => 6
  | .deaf => 7

def Input.code : Input → Nat
  | .door => 1
  | .exhaustHot => 2
  | .highLimit => 4
  | .mains => 8

/-- Input levels and delta flags, summed (01, Table 1-6). -/
def Levels.code (l : Levels) : Nat :=
  l.door.toNat + 2 * l.exhaustHot.toNat + 4 * l.highLimit.toNat + 8 * l.mains.toNat

def SlotName.code : SlotName → Nat
  | .a => 0
  | .b => 1

/-- Station numbers run from 1 to 16 (00, section 0.6.1). -/
def stationNumber (s : Station) : Nat := s.val + 1

/-! ## Bytes (01, R26): highest byte first -/

def byte (n : Nat) : Byte := BitVec.ofNat 8 n

def twoBytes (n : Nat) : List Byte := [byte (n / 256), byte n]

def fourBytes (n : Nat) : List Byte :=
  [byte (n / 16777216), byte (n / 65536), byte (n / 256), byte n]

/-- Result codes (01, section 1.10.2). -/
inductive ResultCode where
  | done
  | state
  | range
  | locked
  | busy
  | unknown
deriving DecidableEq, Repr

def ResultCode.byte : ResultCode → Byte
  | .done => 0
  | .state => 1
  | .range => 2
  | .locked => 3
  | .busy => 4
  | .unknown => 5

/-- The data bytes each command byte of Table 1-4 takes; none for any other byte (01, R26). -/
def dataBytesOf (command : Byte) : Option Nat :=
  match command.toNat with
  | 0x11 => some 5
  | 0x12 => some 7
  | 0x13 => some 1
  | 0x14 => some 0
  | 0x15 => some 0
  | 0x16 => some 0
  | 0x21 => some 0
  | 0x22 => some 0
  | 0x23 => some 0
  | 0x24 => some 0
  | _ => none

/-- The fetch byte of a reply exchange (10, R162). -/
def fetchByte : Byte := 0xFF

/-- `n` bytes of 00h. -/
def zeroBytes (n : Nat) : List Byte := List.replicate n 0

/-- What the last exchange shifts out on SDO as its byte `n`: 00h past the bytes listed, however many whole bytes are
clocked (10, R162, R164). -/
def Port.onSdo (p : Port) (n : Nat) : Byte := p.sdo.getD n 0

/-- The bit on SDO at clock `k` of the bytes of `Port.onSdo`: each byte highest bit first (10, R162). -/
def Port.sdoBit (p : Port) (k : Nat) : Bool := (bitsOf 8 (p.onSdo (k / 8)).toNat).getD (k % 8) false

/-- The bytes that bits clocked in on SDI make: each highest bit first, counted at its eighth clock; bits after the last
whole byte are ignored (10, R162). -/
def bytesClocked : List Bool → List Byte
  | a :: b :: c :: d :: e :: f :: g :: h :: rest => fieldOf 8 [a, b, c, d, e, f, g, h] :: bytesClocked rest
  | _ => []

/-! ## Ranges of requests and records -/

/-- 10, R166. -/
abbrev Configuration.inRange (c : Configuration) : Prop :=
  1 ≤ c.budget ∧ c.budget ≤ 32 ∧ 2 ≤ c.spacing ∧ c.spacing ≤ 10 ∧ c.reheat ≤ 15 ∧ 1 ≤ c.limit ∧ c.limit ≤ 8 ∧
    (c.trigger = 1 ∨ c.trigger = 2 ∨ c.trigger = 4 ∨ c.trigger = 8)

/-- 04, R72. -/
abbrev Program.inRange (g : Program) : Prop :=
  1 ≤ g.dryTime ∧ g.dryTime ≤ 240 ∧ 1 ≤ g.stages ∧ g.stages ≤ 2 ∧ g.coolTime ≤ 30 ∧ g.window ≤ 720 ∧
    5 ≤ g.burst ∧ g.burst ≤ 60 ∧ 1 ≤ g.rest ∧ g.rest ≤ 30

/-- The six fields as a checkpoint and a reply show them: every field 0 for "no program" (08, R132). -/
def Program.shown (g : Option Program) : Program := g.getD ⟨0, 0, 0, 0, 0, 0⟩

/-- 08, R132: every field of the record in its range. -/
abbrev Record.inRange (r : Record) : Prop :=
  r.config.inRange ∧ (∀ g ∈ r.program, g.inRange) ∧ r.remainingDry ≤ 14400 ∧ r.remainingCool ≤ 1800 ∧
    r.windowRemaining ≤ 43200 ∧ r.restRemaining ≤ 1800 ∧ r.burstRemaining ≤ 60 ∧ r.resumeCount ≤ 8

/-! ## Bytes of the checkpoint (01, Table 1-5) -/

/-- The seven BEGIN bytes of a program. -/
def Program.bytes (g : Program) : List Byte :=
  [byte g.dryTime, byte g.stages, byte g.coolTime] ++ twoBytes g.window ++ [byte g.burst, byte g.rest]

/-- The flags byte (01, Table 1-6). -/
def Record.flags (r : Record) : Nat := r.resumed.toNat + 2 * r.heatBarred.toNat + 4 * r.highLimitSeen.toNat

/-- The record's fields as READ CHECKPOINT sends them, from the sequence on, without the check, which covers them
(08, R132). -/
def Record.bytes (r : Record) : List Byte :=
  fourBytes r.sequence.toNat ++
  [byte (stationNumber r.station), byte r.config.budget, byte r.config.spacing, byte r.config.reheat,
    byte r.config.limit, byte r.config.trigger, byte r.phase.code, byte r.target.code] ++
  (Program.shown r.program).bytes ++
  twoBytes r.remainingDry ++ twoBytes r.remainingCool ++ twoBytes r.windowRemaining ++ twoBytes r.restRemaining ++
  [byte r.burstRemaining, byte r.resumeCount, byte r.flags, byte r.outcome.code]

/-- The record's check agrees with its fields (08, R132, R133). -/
abbrev Record.checkAgrees (r : Record) : Prop := r.check = Config.checkpointCheck r.bytes

end Sys2Proof.Machine
end

