-- ==== Sys2Proof/WellFormed.lean ====
section
/-! DEFINITION. Which commands describe an event that can happen on the pins at all. A command whose operands pass no
check below is no event of the part, and leaves it as it is (log 2). -/

namespace Sys2Proof

open Sys2Proof.Machine

/-- The lengths a frame can have from its first key bit to its closing spacer (01, R11 to R15). -/
def frameLengths : List Nat := [37, 39, 42, 52]

/-- The operand checks, row by row; a row answered `true` has no operand that could be ill-formed.
- INVALID_KIND_ABANDON: the kind is 5, 6 or 7 (01, R16).
- CLOSING_SPACER_END: the bits are as many as some kind gives (01, R11 to R15).
- UNKNOWN_COMMAND: the byte is not of Table 1-4, and is not the fetch byte (10, R162, R163).
- INCOMPLETE_REQUEST: the byte is of Table 1-4, and fewer data bytes counted than it requires (10, R163).
- REQUEST_WHILE_BUSY: at least the command byte was clocked (10, R162). -/
def Instr.wellFormed : Instr → Bool
  | .invalidKindAbandon kind => decide (5 ≤ kind.toNat)
  | .closingSpacerEnd bits => decide (bits.length ∈ frameLengths)
  | .unknownCommand command => decide (dataBytesOf command = none) && decide (command ≠ fetchByte)
  | .incompleteRequest command counted =>
    match dataBytesOf command with
    | some n => decide (counted < n)
    | none => false
  | .requestWhileBusy bytes => decide (1 ≤ bytes)
  | .transmissionStart => true
  | .startMarkRecognised _ => true
  | .arbitrationLost => true
  | .payloadLoss _ => true
  | .interference _ => true
  | .verdictSlotEnd _ _ => true
  | .lineIdle => true
  | .courtesyGapEnd => true
  | .lineStuck => true
  | .stuckCleared => true
  | .laneSpacingExpiry => true
  | .entryAgedLost _ => true
  | .listenTimerExpiry => true
  | .censusTimerExpiry => true
  | .standingTimerExpiry => true
  | .configure _ _ _ _ _ => true
  | .beginCycle _ _ _ _ _ _ => true
  | .trim _ => true
  | .cancel => true
  | .clear => true
  | .stationReset _ => true
  | .readStanding => true
  | .readRoster => true
  | .readCheckpoint => true
  | .takeNotice => true
  | .replyFetch _ => true
  | .creditSecond => true
  | .endOfCooling => true
  | .heatStarved => true
  | .checkpointTimerExpiry => true
  | .restExpiry => true
  | .burstEnd => true
  | .windowExpiry => true
  | .inputChange _ _ => true
  | .heatMinOffElapsed _ => true
  | .heatMinOnReached _ => true
  | .thermostatGraceExpiry => true
  | .motorMinOffElapsed => true
  | .tachPulse => true
  | .noRotation => true
  | .rotationLost => true
  | .mainsDeclaredAbsent => true
  | .qualifyDrop => true
  | .settleExpiry => true
  | .endOfQualification => true
  | .rideTimerExpiry => true
  | .backupCollapse _ => true
  | .powerApplied _ => true
  | .standbyMainsReturn _ => true
  | .doorLatchSet => true
  | .startReadComplete => true
  | .writeCompletion _ => true
  | .eraseCompletion => true
  | .agedTimerExpiry => true
  | .lineGoesDominant _ => true
  | .arbitrationWon => true

end Sys2Proof
end

