-- ==== Sys2Proof/Decode.lean ====
section
/-! DEFINITION. Decoding by the table's bits: no row of spec/opcode_table.json gives any ("fields" is empty in every
row and no row has "fixed"), so no word spells a command. Beside it, the command an exchange on the appliance port is,
by the bytes of Table 1-4. -/

namespace Sys2Proof

open Sys2Proof.Machine

/-- The command the `nbits` bits of `w` spell by the table: none, for every word. -/
def decodeTableWord (_nbits _w : Nat) : Option Instr := none

/-- The request a command byte with its data bytes makes (01, Table 1-4), the window highest byte first (01, R26);
`straps`: the levels of STN0..STN3, for STATION RESET. -/
def Instr.ofRequest (straps : BitVec 4) (command : Byte) (data : List Byte) : Option Instr :=
  match command.toNat, data with
  | 0x11, [budget, spacing, reheat, limit, trigger] => some (.configure budget spacing reheat limit trigger)
  | 0x12, [dryTime, stages, coolTime, high, low, burst, rest] =>
    some (.beginCycle dryTime stages coolTime (high ++ low) burst rest)
  | 0x13, [minutes] => some (.trim minutes)
  | 0x14, [] => some .cancel
  | 0x15, [] => some .clear
  | 0x16, [] => some (.stationReset straps)
  | 0x21, [] => some .readStanding
  | 0x22, [] => some .readRoster
  | 0x23, [] => some .readCheckpoint
  | 0x24, [] => some .takeNotice
  | _, _ => none

/-- The command that an exchange of these whole bytes is (10, R162, R163, R165): by its first byte a reply exchange or
a request; while the port is EXECUTING (`busy`) a request is refused; a request with too few data bytes is
incomplete, and the bytes beyond those it takes are ignored. An exchange without a whole byte has no effect. -/
def Instr.ofExchange (busy : Bool) (straps : BitVec 4) : List Byte → Option Instr
  | [] => none
  | command :: data =>
    if command = fetchByte then some (.replyFetch data.length)
    else if busy = true then some (.requestWhileBusy (1 + data.length))
    else
      match dataBytesOf command with
      | none => some (.unknownCommand command)
      | some n =>
        if data.length < n then some (.incompleteRequest command data.length)
        else Instr.ofRequest straps command (data.take n)

/-- The command that an exchange of these clocks is: the bits on SDI, one for each clock of SCK between the assertion of
SEL and its release (10, R162). -/
def Instr.ofClocks (busy : Bool) (straps : BitVec 4) (sdi : List Bool) : Option Instr :=
  Instr.ofExchange busy straps (bytesClocked sdi)

end Sys2Proof
end

