-- ==== Sys2Proof/Machine/Flags.lean ====
section
/-! DEFINITION. What the blocks derive from one another: the roster's figures, the wants, the heat permit, the gate's
conditions, the pending-send set. `Part.settle` brings all of it to what the rules give for the state an event has
left; every event that touches one of these inputs ends in it. -/

namespace Sys2Proof.Machine

/-! ## Timers and their limits -/

/-- A timer started from 0. -/
def Timer.fromZero : Timer := .running 0

/-- The timer is counting. -/
def Timer.isRunning : Timer → Bool
  | .running _ => true
  | _ => false

/-- Limits, in milliseconds (R53, R64, R62, R42, R92, R107, R109, R110, R113, R114, R115, R122, R119, R120, R125,
R173, R80). -/
def listenLimit : Nat := 4000
def censusLimit : Nat := 2000
def standingLimit : Nat := 4000
def agingLimit : Nat := 6000
def checkpointLimit : Nat := 60000
def heatMinOffLimit : Nat := 10000
def heatMinOnLimit : Nat := 10000
def graceLimit : Nat := 30000
def motorMinOffLimit : Nat := 5000
def rotationLimit : Nat := 3000
def absenceLimit : Nat := 40
def warmSettleLimit : Nat := 64
def coldSettleLimit : Nat := 500
def qualificationLimit : Nat := 2000
def rideLimit : Nat := 200
def agedLimit : Nat := 2000
def starvationLimit : Nat := 1800000

/-- The timer has reached its limit and waits for its expiry to be taken. -/
def Timer.isDue (t : Timer) (limit : Nat) : Bool :=
  match t with
  | .running ms => decide (limit ≤ ms)
  | .stopped => false
  | .reached => false

/-- The last second of the counter is over. -/
def Countdown.lastOver (c : Countdown) : Bool := decide (c.seconds = 1 ∧ 1000 ≤ c.part)

/-- The counter is at 0, or its last second is over. -/
def Countdown.isDue (c : Countdown) : Bool := decide (c.seconds = 0) || c.lastOver

/-- The counter with a last second that is over taken from it (05, R100). -/
def Countdown.settled (c : Countdown) : Countdown := if c.lastOver = true then ⟨0, 0⟩ else c

/-! ## Power -/

/-- The line unit, roster, journal, port, queue and input monitor work (R24, R28, R134, R163, R171, R174). -/
abbrev Part.works (p : Part) : Prop :=
  p.sup.power = .settle ∨ p.sup.power = .qualify ∨ p.sup.power = .run ∨ p.sup.power = .ride

/-! ## The roster's derived values (02, R31) -/

/-- The sixteen stations, lowest first. -/
def stations : List Station := [0, 1, 2, 3, 4, 5, 6, 7, 8, 9, 10, 11, 12, 13, 14, 15]

def Roster.entry (r : Roster) (i : Station) : Entry := r.entries.get i

def Roster.withEntry (r : Roster) (i : Station) (e : Entry) : Roster :=
  { r with entries := r.entries.set i.val e i.isLt }

/-- The stages an entry counts in the held total: only a PRESENT entry counts (R27). -/
def Entry.counted (e : Entry) : Nat := if e.presence = .present then e.held else 0

/-- The declared budget an entry counts, if any (R27, R31). -/
def Entry.countedBudget (e : Entry) : Option Nat := if e.presence = .present then e.declaredBudget else none

/-- 02, R31. -/
def Roster.heldTotal (r : Roster) : Nat := (stations.map fun i => (r.entry i).counted).sum

/-- The lesser of two budgets of which either may be none. -/
def leastBudget : Option Nat → Option Nat → Option Nat
  | none, b => b
  | a, none => a
  | some a, some b => some (min a b)

/-- 02, R31: the least of the own configured budget and those declared by PRESENT entries. -/
def Roster.effectiveBudget (r : Roster) (own : Option Nat) : Option Nat :=
  (stations.map fun i => (r.entry i).countedBudget).foldl leastBudget own

/-- 02, R31. -/
def Roster.freeStages (r : Roster) (own : Option Nat) : Nat :=
  match r.effectiveBudget own with
  | none => 0
  | some b => b - r.heldTotal

/-- The own configured budget of the roster (02, R30). -/
def Part.ownBudget (p : Part) : Option Nat := p.ctl.config.map (·.budget)

/-- The own entry (02, R27). -/
def Part.own (p : Part) : Entry := p.roster.entry p.station

/-- The own entry's held stages (02, R33). -/
def Part.ownHeld (p : Part) : Nat := p.own.held

def Part.freeStages (p : Part) : Nat := p.roster.freeStages p.ownBudget

/-! ## Standings -/

/-- The kinds a standing may send (03, R50). -/
def Standing.permits : Standing → Kind → Bool
  | .active, .drop => true
  | .active, .hold => true
  | .active, .take => true
  | .active, .lane => true
  | .isolated, .hold => true
  | .dark, .dark => true
  | _, _ => false

/-! ## Wants (04, R74) -/

/-- The heat stages the program wants. -/
def Cycle.programStages (c : Cycle) : Nat := (c.program.map (·.stages)).getD 0

/-- 04, R74: the heat want, with the gate's thermostat report. -/
def Cycle.heatWantNow (c : Cycle) (report : Bool) : Nat :=
  if c.phase = .dry ∧ c.heatBarred = false ∧ report = false then c.programStages else 0

/-- 04, R74: the lane want. -/
def Cycle.laneWantNow (c : Cycle) : Option Nat :=
  match c.phase with
  | .startWait => some (if c.resumed then 0 else 1)
  | .burstWait => some 2
  | .idle => none
  | .spinup => none
  | .dry => none
  | .cool => none
  | .rest => none
  | .burst => none
  | .halted => none

/-- 04, R74: MOTOR is wanted in SPINUP, DRY, COOL and BURST. -/
def Phase.wantsMotor : Phase → Bool
  | .spinup => true
  | .dry => true
  | .cool => true
  | .burst => true
  | .idle => false
  | .startWait => false
  | .rest => false
  | .burstWait => false
  | .halted => false

/-! ## The gate's conditions (06) -/

/-- The gate's running indication: MOTOR energized with rotation confirmed (R111). -/
abbrev Gate.runningIndication (g : Gate) : Prop := g.motor = true ∧ g.watch = .running

/-- No heat stage is energized (R111). -/
abbrev Gate.heatOff (g : Gate) : Prop := g.heat1.on = false ∧ g.heat2.on = false

/-- No stage numbered above `k` is energized (R65, R111). -/
def Gate.noStageAbove (g : Gate) (k : Nat) : Bool :=
  (g.heat1.on = false || decide (1 ≤ k)) && (g.heat2.on = false || decide (2 ≤ k))

/-- How many stages are energized. -/
def Gate.energized (g : Gate) : Nat := g.heat1.on.toNat + g.heat2.on.toNat

/-- The conditions of R107 that are also causes of R108 when they fail, for stage `n`. -/
abbrev Part.stageMayStay (p : Part) (n : Nat) : Prop :=
  n ≤ p.ctl.permit ∧ p.gate.runningIndication ∧ p.inp.level.door = false ∧ p.inp.level.highLimit = false ∧
    p.sup.power = .run

/-- A stage de-energized: min-off from 0, min-on back to 0, no turn-off pending (R108). A stage whose min-on is still
0 was energized by an event that falls together with the one that takes it off: it keeps the state it had before
both, off with its min-off elapsed (R116; log 1). -/
def StageGate.deenergized (g : StageGate) : StageGate :=
  ⟨false, 0, if g.minOn = 0 then .reached else .running 0, false⟩

/-- A stage energized (R106, R107). -/
def StageGate.energizedNow (g : StageGate) : StageGate := { g with on := true, minOn := 0, turnOffPending := false }

/-- R107 and R108 for one stage: off on a cause of R108, on when every condition of R107 holds. -/
def StageGate.settled (g : StageGate) (mayStay exhaustHot : Bool) : StageGate :=
  if g.on = true then (if mayStay = true then g else g.deenergized)
  else if mayStay = true ∧ exhaustHot = false ∧ g.minOff = .reached then g.energizedNow
  else g

/-- MOTOR de-energized: min-off from 0, the watch none, its timer stopped (R113). -/
def Gate.motorOff (g : Gate) : Gate :=
  { g with motor := false, motorMinOff := .running 0, watch := .none, rotation := .stopped }

/-- The stage's enable output (R106). What an event energizes is driven once time passes: of the events that fall
together with it, none can show a pulse at the pin (R116; log 1). -/
def StageGate.drive (g : StageGate) : Bool := g.on && decide (0 < g.minOn)

/-- The enable output of MOTOR, in the same way: an event that energizes it, such as the grant of 05, R100, last row,
drives nothing until time passes (R106, R116; log 1). -/
def Gate.motorDrive (g : Gate) : Bool := g.motor && g.pastStart

/-- MOTOR was energized at this very moment: no time has passed since (R112, R116; log 1), though a TACH pulse of the
same moment may have moved the rotation watch on (DESIGN CHOICE, log 36). -/
abbrev Gate.justStarted (g : Gate) : Prop := g.motor = true ∧ g.pastStart = false

/-- MOTOR de-energized by the door, the supply or the withdrawn want (R113). A MOTOR energized by an event that falls
together with this one keeps the state it had before both: off, its min-off elapsed, no watch, its start order
standing while MOTOR is wanted (R116; log 1). -/
def Gate.motorTakenOff (g : Gate) (wanted : Bool) : Gate :=
  if g.justStarted then { g with motor := false, startOrder := wanted, watch := .none, rotation := .stopped }
  else g.motorOff

/-- MOTOR energized on its start order (R112). -/
def Gate.motorOn (g : Gate) : Gate :=
  { g with motor := true, startOrder := false, watch := .confirming, rotation := .running 0, pastStart := false }

/-! ## Bringing the blocks to what the rules give

Each step below works out one block's derived state from the state before it. -/

/-- 06, R110: the grace timer and the report go with EXHAUST HOT and with DRY. -/
def Part.settleThermostat (p : Part) : Part :=
  if p.inp.level.exhaustHot = true ∧ p.cyc.phase = .dry then p
  else { p with gate := { p.gate with grace := 0, report := false } }

/-- 04, R74: the wants as the phase gives them; outside RUN the cycle engine is frozen (R90). -/
def Part.settleWants (p : Part) : Part :=
  if p.sup.power = .run then
    { p with cyc := { p.cyc with
        heatWant := p.cyc.heatWantNow p.gate.report
        laneWant := p.cyc.laneWantNow
        motorWanted := p.cyc.phase.wantsMotor } }
  else p

/-- 06, R112: a start order stands only while MOTOR is wanted. -/
def Part.settleOrder (p : Part) : Part :=
  if p.cyc.motorWanted = true then p else { p with gate := { p.gate with startOrder := false } }

/-- MOTOR's own conditions: wanted, door closed, RUN (R112, R113). -/
abbrev Part.motorMayRun (p : Part) : Prop :=
  p.cyc.motorWanted = true ∧ p.inp.level.door = false ∧ p.sup.power = .run

/-- 06, R112, R113 and R116. -/
def Part.settleMotor (p : Part) : Part :=
  if p.gate.motor = true then
    if p.motorMayRun then p else { p with gate := p.gate.motorTakenOff p.cyc.motorWanted }
  else if p.gate.startOrder = true ∧ p.motorMayRun ∧ p.gate.motorMinOff = .reached then
    { p with gate := p.gate.motorOn }
  else p

/-- 03, R59: the heat permit. -/
def Part.permitNow (p : Part) : Nat :=
  if p.ctl.standing = .active ∧ p.ctl.shed = false then min p.ownHeld p.cyc.heatWant else 0

def Part.settlePermit (p : Part) : Part := { p with ctl := { p.ctl with permit := p.permitNow } }

/-- 06, R107 and R108. -/
def Part.settleHeat (p : Part) : Part :=
  { p with gate := { p.gate with
      heat1 := p.gate.heat1.settled (decide (p.stageMayStay 1)) p.inp.level.exhaustHot
      heat2 := p.gate.heat2.settled (decide (p.stageMayStay 2)) p.inp.level.exhaustHot } }

/-- 04, R80: the starvation timer is 0 while stages are held. -/
def Part.settleStarvation (p : Part) : Part :=
  if p.sup.power = .run ∧ 1 ≤ p.ownHeld then { p with cyc := { p.cyc with starvation := 0 } } else p

/-- 03, R65: the number of stages the station should hold. -/
def Part.dropTarget (p : Part) : Nat := if p.ctl.shed = true then 0 else min p.ownHeld p.cyc.heatWant

/-- 03, R65. -/
abbrev Part.dropDue (p : Part) : Prop :=
  p.ctl.standing = .active ∧ p.dropTarget < p.ownHeld ∧ p.gate.noStageAbove p.dropTarget = true

/-- 03, R66 and R67. -/
abbrev Part.takeDue (p : Part) : Prop :=
  p.ctl.standing = .active ∧ p.ctl.shed = false ∧ p.ownHeld < p.cyc.heatWant ∧ 1 ≤ p.freeStages ∧
    p.ctl.takeVoids < 4

/-- 03, R68. -/
abbrev Part.laneDue (p : Part) : Prop :=
  p.ctl.standing = .active ∧ p.cyc.laneWant.isSome = true ∧ p.roster.lane = none ∧
    p.gate.motorMinOff = .reached

/-- 03, R63: DROP, TAKE and LANE are in the set exactly while their conditions hold; HOLD and DARK stay as events
put them, while the standing permits them. -/
def Part.settleSend (p : Part) : Part :=
  { p with ctl := { p.ctl with send := {
      dark := p.ctl.send.dark && p.ctl.standing.permits .dark
      drop := decide p.dropDue
      hold := p.ctl.send.hold && p.ctl.standing.permits .hold
      take := decide p.takeDue
      lane := decide p.laneDue } } }

/-- 03, R70: a want of the station is unmet. -/
abbrev Part.wantUnmet (p : Part) : Prop := p.ownHeld < p.cyc.heatWant ∨ p.cyc.laneWant.isSome = true

/-- 03, R70: the wait age is 0 while no want is unmet. R70 also has it keep its value in the standings without census;
the model puts it to 0 there too when the last unmet want goes, and keeps it there otherwise (DEDUCED, log 38). -/
def Part.settleWait (p : Part) : Part :=
  if p.wantUnmet then p else { p with ctl := { p.ctl with waitAge := 0 } }

/-- All derived state, in the order of R111: the wants and the permit, then the outputs, then what the standing
controller makes of the gate's report. -/
def Part.settle (p : Part) : Part :=
  p.settleThermostat.settleWants.settleOrder.settleMotor.settlePermit.settleHeat.settleStarvation.settleSend.settleWait

end Sys2Proof.Machine
end

