-- ==== Sys2Proof/Machine/Ops.lean ====
section
/-! DEFINITION. The shared operations: what the blocks do for one another within an event. Queueing a notice, a change
of standing, a checkpoint request, a phase change, the end of a cycle, applying a frame to the roster, the excess
check, the end of RIDE, the entry to STANDBY, OFF and a reset path. -/

namespace Sys2Proof.Machine

/-- The outcome of a command whose effect on the part is `f`: the queue is left as it is. -/
def State.runs (s : State) (f : Part → Part) : Host.Outcome State Fault Refusal :=
  .next { s with toPart := f s.toPart }

/-! ## The notice queue (10, R170 to R173) -/

/-- The urgent kinds (R170). -/
def NoticeKind.urgent : NoticeKind → Bool
  | .fault => true
  | .cycleEnd => true
  | .resume => true
  | .phase => false
  | .standing => false
  | .budgetMismatch => false
  | .lost => false
  | .excessShed => false
  | .heatStarved => false
  | .tornSlot => false
  | .inputChange => false

/-- The attention trigger: the configuration's, or 1 while there is none (R172). -/
def triggerOf (config : Option Configuration) : Nat := (config.map (·.trigger)).getD 1

/-- The queue's capacity (R171). -/
def queueLimit : Nat := 8

/-- R171, R172, R173: a notice joins the queue, or is discarded with the overflow flag set. -/
def NoticeQueue.arrive (q : NoticeQueue) (trigger : Nat) (n : Notice) : NoticeQueue :=
  if q.queue.length < queueLimit then
    { q with
      queue := q.queue ++ [n]
      attn := q.attn || n.kind.urgent || decide (trigger ≤ q.queue.length + 1)
      aged := if q.queue.isEmpty then .running 0 else q.aged }
  else { q with overflow := true }

/-- A block queues a notice (10, R170). -/
def Part.notify (p : Part) (n : Notice) : Part :=
  { p with ntc := p.ntc.arrive (triggerOf p.ctl.config) n }

/-- A notice about the own station with the current phase. -/
def Part.notifyOwn (p : Part) (kind : NoticeKind) (value : Option Nat) : Part :=
  p.notify ⟨kind, p.station, p.cyc.phase, value⟩

/-- A FAULT notice (01, Table 1-6). -/
def Part.notifyFault (p : Part) (fault : FaultKind) : Part := p.notifyOwn .fault (some fault.code)

/-! ## The standing controller -/

/-- R51: what a change of standing does besides its notice. -/
def Part.enterStanding (p : Part) (new : Standing) : Part :=
  { p with ctl := { p.ctl with
      standing := new
      send := {
        dark := decide (new = .dark)
        drop := p.ctl.send.drop && new.permits .drop
        hold := decide (new = .active ∨ new = .isolated)
        take := p.ctl.send.take && new.permits .take
        lane := p.ctl.send.lane && new.permits .lane }
      unheard := if new = .active then p.ctl.unheard else .stopped
      census := if new = .active ∨ new = .isolated then .running 0 else .stopped
      listen := if new = .listening then .running 0 else .stopped
      shed := p.ctl.shed || (decide (p.ctl.standing = .active) && decide (0 < p.ownHeld)) } }

/-- R51: a change of standing without a fault cause. -/
def Part.changeStanding (p : Part) (new : Standing) : Part :=
  (p.enterStanding new).notifyOwn .standing (some new.code)

/-- R51: a change of standing with a fault cause. -/
def Part.faultStanding (p : Part) (new : Standing) (fault : FaultKind) : Part :=
  (p.enterStanding new).notifyFault fault

/-- R57: the line unit reports DUPLICATE STATION. -/
def Part.onDuplicateStation (p : Part) : Part :=
  if p.ctl.standing = .barred ∨ p.ctl.standing = .dark then p
  else p.faultStanding .barred .duplicateStation

/-- R54: the line unit reports LINE STUCK; the notice stands for the one of R51. -/
def Part.onLineStuck (p : Part) : Part :=
  if p.ctl.standing = .active ∨ p.ctl.standing = .listening then p.faultStanding .isolated .lineStuck
  else p.notifyFault .lineStuck

/-- R56: the line unit reports SCORE HIGH. -/
def Part.onScoreHigh (p : Part) : Part :=
  if p.ctl.standing = .listening ∨ p.ctl.standing = .active ∨ p.ctl.standing = .isolated then
    p.faultStanding .deaf .deaf
  else p

/-- R22: an error of a frame at this station; in DEAF it adds nothing. -/
def Part.scoreError (p : Part) : Part :=
  if p.ctl.standing = .deaf then p
  else
    let q := { p with line := { p.line with score := min 255 (p.line.score + 8) } }
    if 96 ≤ q.line.score then q.onScoreHigh else q

/-- R22 and R56: a clean frame followed to the end of its slot; SCORE CLEAR at 0 in DEAF. -/
def Part.scoreClean (p : Part) : Part :=
  let q := { p with line := { p.line with score := p.line.score - 1 } }
  if q.line.score = 0 ∧ q.ctl.standing = .deaf then q.changeStanding .listening else q

/-! ## The excess check (02, R47 to R49; 03, R61) -/

/-- The group of the shed order a holder falls in (R48). -/
def shedGroup : Option PhaseClass → Nat
  | some .dry => 2
  | some .dryResumed => 3
  | some .idle => 1
  | some .cool => 1
  | some .crease => 1
  | some .halted => 1
  | none => 1

/-- The holders of one group, highest station number first (R48). -/
def Roster.holdersOfGroup (r : Roster) (g : Nat) : List Station :=
  stations.reverse.filter fun i =>
    decide ((r.entry i).presence = .present ∧ 0 < (r.entry i).held ∧ shedGroup (r.entry i).phaseClass = g)

/-- The holders in shedding order (R48). -/
def Roster.shedOrder (r : Roster) : List Station :=
  r.holdersOfGroup 1 ++ r.holdersOfGroup 2 ++ r.holdersOfGroup 3

/-- The walk of R48: each holder is marked until the amount marked is at least the excess. -/
def shedWalk (held : Station → Nat) : Nat → List Station → List Station
  | _, [] => []
  | excess, i :: rest => i :: (if excess ≤ held i then [] else shedWalk held (excess - held i) rest)

/-- The stations marked for an excess (R48). -/
def Roster.marked (r : Roster) (excess : Nat) : List Station :=
  shedWalk (fun i => (r.entry i).held) excess r.shedOrder

/-- R61: the roster reports an excess that marks the own station. -/
def Part.onExcess (p : Part) (excess : Nat) : Part :=
  if p.ctl.standing = .active ∧ p.ctl.shed = false then
    Part.notifyOwn { p with ctl := { p.ctl with shed := true } } .excessShed (some excess)
  else p

/-- R47: the excess check. -/
def Part.excessCheck (p : Part) : Part :=
  match p.roster.effectiveBudget p.ownBudget with
  | none => p
  | some budget =>
    if budget < p.roster.heldTotal ∧ p.station ∈ p.roster.marked (p.roster.heldTotal - budget) then
      p.onExcess (p.roster.heldTotal - budget)
    else p

/-- R30, R52, R172: the configuration is set or removed; the trigger may change with it, and the roster makes its
excess check. -/
def Part.setConfig (p : Part) (config : Option Configuration) : Part :=
  let raised := decide (triggerOf config ≠ triggerOf p.ctl.config) &&
    decide (triggerOf config ≤ p.ntc.queue.length)
  Part.excessCheck
    { p with
      ctl := { p.ctl with config := config }
      ntc := { p.ntc with attn := p.ntc.attn || raised } }

/-! ## The checkpoint journal (08) -/

/-- The other slot. -/
def SlotName.other : SlotName → SlotName
  | .a => .b
  | .b => .a

def Journal.slot (j : Journal) : SlotName → Slot
  | .a => j.slotA
  | .b => j.slotB

def Journal.withSlot (j : Journal) (n : SlotName) (s : Slot) : Journal :=
  match n with
  | .a => { j with slotA := s }
  | .b => { j with slotB := s }

def Journal.torn (j : Journal) : SlotName → Bool
  | .a => j.tornA
  | .b => j.tornB

def Journal.withTorn (j : Journal) (n : SlotName) (t : Bool) : Journal :=
  match n with
  | .a => { j with tornA := t }
  | .b => { j with tornB := t }

/-- The torn-slot count (R134). -/
def Journal.tornCount (j : Journal) : Nat := j.tornA.toNat + j.tornB.toNat

/-- The journal is quiet: IDLE with no write pending and no erase queued (R134). -/
abbrev Journal.quiet (j : Journal) : Prop :=
  j.operation = none ∧ j.pendingWrite = false ∧ j.eraseQueued = false

/-- R135: the slot a write goes to. -/
def Journal.writeSlot (j : Journal) : SlotName :=
  match j.newest with
  | some n => n.other
  | none => .a

/-- R135: the sequence a write is given. -/
def Journal.writeSequence (j : Journal) : BitVec 32 :=
  match j.newestSequence with
  | some q => q + 1
  | none => 1

/-- R132, R136: the record of the current state; the check is computed over every other field. -/
def Part.composeRecord (p : Part) (config : Configuration) : Record :=
  let fields : Record :=
    { sequence := p.jrn.writeSequence
      station := p.station
      config := config
      phase := p.cyc.phase
      target := p.cyc.target
      program := p.cyc.program
      remainingDry := p.cyc.remainingDry
      remainingCool := p.cyc.cool.seconds
      windowRemaining := p.cyc.window.seconds
      restRemaining := p.cyc.rest.seconds
      burstRemaining := p.cyc.burst.seconds
      resumeCount := p.cyc.resumeCount
      resumed := p.cyc.resumed
      heatBarred := p.cyc.heatBarred
      highLimitSeen := p.cyc.highLimitSeen
      outcome := p.cyc.outcome
      check := 0 }
  { fields with check := Config.checkpointCheck fields.bytes }

/-- R135, R136: a write begins. -/
def Part.beginWrite (p : Part) (config : Configuration) : Part :=
  { p with jrn := { p.jrn with
      operation := some (.write p.jrn.writeSlot (p.composeRecord config))
      elapsed := 0 } }

/-- R136: a checkpoint request. -/
def Part.requestCheckpoint (p : Part) : Part :=
  match p.ctl.config with
  | none => p
  | some config =>
    if p.jrn.operation = none then p.beginWrite config
    else { p with jrn := { p.jrn with pendingWrite := true } }

/-- R133: a valid record, if the slot holds one. -/
def Slot.validRecord (s : Slot) (own : Station) : Option Record :=
  match s with
  | .record r => if r.checkAgrees ∧ r.inRange ∧ r.station = own then some r else none
  | .erased => none
  | .torn => none

/-- R133: the slot is torn: its check fails, or a field lies outside its range. -/
def Slot.isTorn (s : Slot) : Bool :=
  match s with
  | .record r => !decide (r.checkAgrees ∧ r.inRange)
  | .erased => false
  | .torn => true

/-- R133: record `x` is newer than record `y`, modulo 2^32. -/
def sequenceNewer (x y : BitVec 32) : Bool :=
  decide (1 ≤ (x - y).toNat ∧ (x - y).toNat ≤ 2147483647)

/-- R141: the slot the start read chooses, with its record. -/
def Journal.chosen (j : Journal) (own : Station) : Option (SlotName × Record) :=
  match j.slotA.validRecord own, j.slotB.validRecord own with
  | some a, some b => if sequenceNewer b.sequence a.sequence then some (.b, b) else some (.a, a)
  | some a, none => some (.a, a)
  | none, some b => some (.b, b)
  | none, none => none

/-- The record the journal holds as newest (R143). -/
def Journal.newestRecord (j : Journal) : Option Record :=
  match j.newest with
  | none => none
  | some n =>
    match j.slot n with
    | .record r => some r
    | .erased => none
    | .torn => none

/-- R141 and R142: the start read completes. -/
def Part.completeStartRead (p : Part) : Part :=
  let q := { p with jrn := { p.jrn with
      newest := (p.jrn.chosen p.station).map (·.1)
      newestSequence := (p.jrn.chosen p.station).map (·.2.sequence)
      tornA := p.jrn.slotA.isTorn
      tornB := p.jrn.slotB.isTorn
      startRead := false
      elapsed := 0 } }
  if q.jrn.tornCount = 0 then q
  else q.notify ⟨.tornSlot, q.station, .idle, some q.jrn.tornCount⟩

/-! ## The appliance port (10) -/

/-- A reply is placed in the buffer; READY rises (R163). -/
def Part.answer (p : Part) (code : ResultCode) (data : List Byte) : Part :=
  { p with port := { p.port with state := .replyReady, held := none, reply := code.byte :: data } }

/-- The 34 data bytes of READ CHECKPOINT (01, R26 and Table 1-5; 08, R143); "none" carries its record bytes as 0. The
slot byte is then 0 as well, for which no rule gives a code (DESIGN CHOICE, log 33). -/
def Journal.checkpointBytes (j : Journal) : List Byte :=
  match j.newest, j.newestRecord with
  | some n, some r => [byte 1, byte n.code, byte j.tornCount] ++ r.bytes
  | _, _ => [byte 0, byte 0, byte j.tornCount] ++ zeroBytes 31

/-- 10, R168: READ CHECKPOINT is answered. -/
def Part.answerCheckpoint (p : Part) : Part := p.answer .done p.jrn.checkpointBytes

/-- 08, R141 and 10, R168: the start read completes, and a READ CHECKPOINT held for it is answered. -/
def Part.finishStartRead (p : Part) : Part :=
  let q := p.completeStartRead
  if q.port.held = some .readCheckpoint then q.answerCheckpoint else q

/-- A request stays in EXECUTING (R163). -/
def Part.holdRequest (p : Part) (r : HeldRequest) : Part :=
  { p with port := { p.port with state := .executing, held := some r, reply := [] } }

/-- The port as the command byte of a request exchange counts (R163, R165): RECEIVING, a waiting reply discarded; of the
exchange's `clocked` whole bytes each shifts out 00h. -/
def Part.receiving (p : Part) (clocked : Nat) : Part := { p with port := ⟨.receiving, none, [], zeroBytes clocked⟩ }

/-- A request exchange of `clocked` whole bytes (R163, R165): refused with BUSY while EXECUTING; otherwise the port
receives it, and `release` is what becomes of it when SEL is released. The port answers nothing in OFF and STANDBY
(R163, 07 R128). -/
def Part.exchange (p : Part) (clocked : Nat) (release : Part → Part) : Part :=
  if p.works then
    if p.port.state = .executing then
      { p with port := { p.port with sdo := ResultCode.busy.byte :: zeroBytes (clocked - 1) } }
    else release (p.receiving clocked)
  else p

/-- A complete request of Table 1-4: EXECUTING, and carried out by `run` (R163). -/
def Part.request (p : Part) (clocked : Nat) (run : Part → Part) : Part :=
  p.exchange clocked fun q => run { q with port := { q.port with state := .executing } }

/-- The READY pin (R163): high in REPLY_READY, low in the other port states; undriven, `none`, in OFF and STANDBY. -/
def Part.ready (p : Part) : Option Bool := if p.works then some (decide (p.port.state = .replyReady)) else none

/-- The READY pin within an exchange of which `counted` whole bytes have counted: it falls as the first counts, a command
byte (R163, R165) or the fetch byte (R164). -/
def Part.readyWithin (p : Part) (counted : Nat) : Option Bool :=
  if counted = 0 then p.ready else p.ready.map fun _ => false

/-! ## The cycle engine (04, 05) -/

/-- The engine takes reports, requests and input changes only in RUN (R71, R90). -/
abbrev Part.engineRuns (p : Part) : Prop := p.sup.power = .run

/-- A new phase; the checkpoint timer starts from 0 on entry to DRY, COOL and REST and stops in every other phase
(R92). -/
def Cycle.enter (c : Cycle) (phase : Phase) : Cycle :=
  { c with
    phase := phase
    checkpointTimer := if phase = .dry ∨ phase = .cool ∨ phase = .rest then .running 0 else .stopped }

/-- R92: a phase change queues a PHASE notice and requests a checkpoint. -/
def Part.changePhase (p : Part) (phase : Phase) : Part :=
  (Part.notifyOwn { p with cyc := p.cyc.enter phase } .phase none).requestCheckpoint

/-- R91, items 1 to 4: the outcome is recorded and the cycle stands in IDLE with every remaining time 0. -/
def Cycle.ended (c : Cycle) (outcome : CycleOutcome) : Cycle :=
  { c.enter .idle with
    outcome := outcome
    target := .none
    remainingDry := 0
    cool := ⟨0, 0⟩
    window := ⟨0, 0⟩
    rest := ⟨0, 0⟩
    burst := ⟨0, 0⟩
    credit := 0 }

/-- R91: a cycle ends. -/
def Part.endCycle (p : Part) (outcome : CycleOutcome) : Part :=
  let q := { p with cyc := p.cyc.ended outcome }
  ((q.notify ⟨.cycleEnd, q.station, p.cyc.phase, some outcome.code⟩).notifyOwn .phase none).requestCheckpoint

/-- COMPLETED, or FAULTED if the heat-barred flag is set (R83, R98, R99). -/
def Cycle.completion (c : Cycle) : CycleOutcome := if c.heatBarred = true then .faulted else .completed

/-- R84 with the notices of R85, R86 and R97: the cycle halts on a rotation fault. A burst whose last second is over at
that moment halts with burst remaining 0 (05, R100); the other remaining times keep their values. -/
def Part.haltCycle (p : Part) (fault : FaultKind) : Part :=
  let q := p.notifyFault fault
  Part.changePhase { q with cyc := { q.cyc with target := .none, burst := q.cyc.burst.settled } } .halted

def Cycle.windowMinutes (c : Cycle) : Nat := (Program.shown c.program).window
def Cycle.restMinutes (c : Cycle) : Nat := (Program.shown c.program).rest
def Cycle.burstSeconds (c : Cycle) : Nat := (Program.shown c.program).burst
def Cycle.coolMinutes (c : Cycle) : Nat := (Program.shown c.program).coolTime

/-- R83 and R94: the end of cooling. -/
def Part.endCooling (p : Part) : Part :=
  if 0 < p.cyc.windowMinutes then
    Part.changePhase { p with cyc := { p.cyc with
        cool := ⟨0, 0⟩
        target := .none
        window := ⟨p.cyc.windowMinutes * 60, 0⟩
        rest := ⟨p.cyc.restMinutes * 60, 0⟩
        burst := ⟨0, 0⟩ } } .rest
  else Part.endCycle { p with cyc := { p.cyc with cool := ⟨0, 0⟩ } } p.cyc.completion

/-- R82: the end of drying; with cool time 0 the end of cooling is taken at the same event. -/
def Part.endDrying (p : Part) : Part :=
  let q := Part.changePhase { p with cyc := { p.cyc with
      remainingDry := 0
      cool := ⟨p.cyc.coolMinutes * 60, 0⟩ } } .cool
  if p.cyc.coolMinutes = 0 then q.endCooling else q

/-- R75 and R96: a lane grant. -/
def Part.laneGrant (p : Part) : Part :=
  if p.engineRuns ∧ p.cyc.phase = .startWait then
    Part.changePhase { p with gate := { p.gate with startOrder := true } } .spinup
  else if p.engineRuns ∧ p.cyc.phase = .burstWait then
    Part.changePhase { p with
      gate := { p.gate with startOrder := true }
      cyc := { p.cyc with burst := ⟨p.cyc.burstSeconds, 0⟩ } } .burst
  else p

/-- R76, R97: the gate reports ROTATION CONFIRMED. -/
def Part.rotationConfirmed (p : Part) : Part :=
  if p.engineRuns ∧ p.cyc.phase = .spinup then
    match p.cyc.target with
    | .dry =>
      Part.changePhase { p with cyc := { p.cyc with
        target := .none, starvation := 0, starvationReported := false, credit := 0 } } .dry
    | .cool =>
      Part.changePhase { p with cyc := { p.cyc with target := .none, cool := ⟨p.cyc.cool.seconds, 0⟩ } } .cool
    | .none => p
  else p

/-- R87: how a door opening ends the cycle in each phase; none in IDLE. -/
def Cycle.doorOutcome (c : Cycle) : Option CycleOutcome :=
  match c.phase with
  | .idle => none
  | .startWait => some (if c.target = .cool then .collected else .abandoned)
  | .spinup => some (if c.target = .cool then .collected else .abandoned)
  | .dry => some .abandoned
  | .cool => some .collected
  | .rest => some .collected
  | .burstWait => some .collected
  | .burst => some .collected
  | .halted => some .faulted

/-- R87: the cycle engine takes a door opening. -/
def Part.doorOpened (p : Part) : Part :=
  match p.cyc.doorOutcome with
  | none => p
  | some outcome => p.endCycle outcome

/-- R88: the flag and the notice. -/
def Part.barHeat (p : Part) : Part :=
  let q := { p with cyc := { p.cyc with heatBarred := true } }
  if p.cyc.highLimitSeen = true then q
  else
    let r := q.notifyFault .highLimit
    { r with cyc := { r.cyc with highLimitSeen := true } }

/-- R88: the least cool-down after the cutout, seconds. -/
def leastCooling : Nat := 300

/-- R88: the cycle engine takes HIGH LIMIT becoming active. Where remaining cool is raised in COOL, the part of a second
already counted stays counted, so the first of the 300 s may be short (DESIGN CHOICE, log 30). -/
def Part.highLimitTripped (p : Part) : Part :=
  let cooling := max (p.cyc.coolMinutes * 60) leastCooling
  match p.cyc.phase with
  | .idle => p
  | .dry =>
    Part.changePhase { p.barHeat with cyc := { p.barHeat.cyc with cool := ⟨cooling, 0⟩ } } .cool
  | .startWait => coolLater p cooling
  | .spinup => coolLater p cooling
  | .cool =>
    Part.requestCheckpoint { p.barHeat with cyc := { p.barHeat.cyc with
      cool := ⟨max p.cyc.cool.seconds leastCooling, p.cyc.cool.part⟩ } }
  | .rest => p.barHeat.requestCheckpoint
  | .burstWait => p.barHeat.requestCheckpoint
  | .burst => p.barHeat.requestCheckpoint
  | .halted => p.barHeat.requestCheckpoint
where
  /-- START_WAIT and SPINUP: the start leads to COOL (R88). -/
  coolLater (p : Part) (cooling : Nat) : Part :=
    Part.requestCheckpoint { p.barHeat with cyc := { p.barHeat.cyc with
      target := .cool
      cool := ⟨if p.cyc.target = .cool then max p.cyc.cool.seconds leastCooling else cooling, p.cyc.cool.part⟩ } }

/-! ## The resume decision (09) -/

/-- R149. -/
def classOf : Option Nat → OutageClass
  | none => .long
  | some t => if t ≤ 600 then .short else if t ≤ 5400 then .medium else .long

/-- R148. -/
def outageOf : Option Nat → Outage
  | none => .unknown
  | some t => .seconds t

/-- What the decision does with the cycle: it places it in a phase, with the remaining times it gives, or ends it. -/
inductive Placement where
  /-- R152 and R156: as the record shows it, not a resume. -/
  | asRecorded
  /-- R157: continued. -/
  | continued (phase : Phase) (target : Target) (dry cool window : Nat)
  /-- R158: ended. -/
  | ended (outcome : CycleOutcome)
deriving DecidableEq, Repr

/-- COMPLETED, or FAULTED if the record is heat-barred (R154, R155). -/
def Record.completion (r : Record) : CycleOutcome := if r.heatBarred = true then .faulted else .completed

/-- A remaining time less the outage: 0 for a LONG outage (R149). -/
def leftAfter (remaining : Nat) (outage : Option Nat) : Nat :=
  match classOf outage, outage with
  | .long, _ => 0
  | .short, some t => remaining - t
  | .medium, some t => remaining - t
  | .short, none => 0
  | .medium, none => 0

/-- The record's resume count has reached its resume limit (R153 to R155, R157). -/
abbrev Record.atLimit (r : Record) : Prop := r.config.limit ≤ r.resumeCount

/-- R153: a record of a drying phase. -/
def Record.placeDrying (r : Record) (outage : Option Nat) (latch : Bool) : Placement :=
  if latch = true then .ended .abandoned
  else if r.atLimit then .ended .declined
  else
    match classOf outage with
    | .long => .ended .declined
    | .short => .continued .startWait .dry r.remainingDry 0 0
    | .medium =>
      .continued .startWait .dry
        (min (r.remainingDry + r.config.reheat * 60) ((Program.shown r.program).dryTime * 60)) 0 0

/-- R154, case 5: what is left of the window that began when the cool-down ran out, `c` seconds after the
declaration. -/
def Record.windowAfterCooling (r : Record) (outage : Option Nat) : Nat :=
  match classOf outage, outage with
  | .long, _ => 0
  | .short, some t => (Program.shown r.program).window * 60 - (t - r.remainingCool)
  | .medium, some t => (Program.shown r.program).window * 60 - (t - r.remainingCool)
  | .short, none => 0
  | .medium, none => 0

/-- R154: a record of a cooling phase. -/
def Record.placeCooling (r : Record) (outage : Option Nat) (latch : Bool) : Placement :=
  if latch = true then .ended .collected
  else if 0 < leftAfter r.remainingCool outage then
    if r.atLimit then .ended .declined
    else .continued .startWait .cool r.remainingDry (leftAfter r.remainingCool outage) 0
  else if (Program.shown r.program).window = 0 then .ended r.completion
  else if r.windowAfterCooling outage = 0 then .ended r.completion
  else if r.atLimit then .ended .declined
  else .continued .burstWait .none r.remainingDry 0 (r.windowAfterCooling outage)

/-- A remaining time that R155 does not name: 0 where the record shows 0, as every reading of the rule gives;
otherwise a free value within the range of the item (log 11). -/
def unstatedTime (recorded range count : Nat) : Nat :=
  if recorded = 0 then 0 else Config.freeSeconds count % (range + 1)

/-- R155: a record of an anti-crease phase. -/
def Record.placeTumbling (r : Record) (outage : Option Nat) (latch : Bool) (count : Nat) : Placement :=
  if latch = true then .ended .collected
  else if leftAfter r.windowRemaining outage = 0 then .ended r.completion
  else if r.atLimit then .ended .declined
  else .continued .burstWait .none (unstatedTime r.remainingDry 14400 count)
    (unstatedTime r.remainingCool 1800 (count + 1)) (leftAfter r.windowRemaining outage)

/-- R152 to R156: the placement by the phase the record shows. -/
def Record.place (r : Record) (outage : Option Nat) (latch : Bool) (count : Nat) : Placement :=
  match r.phase with
  | .idle => .asRecorded
  | .dry => r.placeDrying outage latch
  | .startWait => if r.target = .cool then r.placeCooling outage latch else r.placeDrying outage latch
  | .spinup => if r.target = .cool then r.placeCooling outage latch else r.placeDrying outage latch
  | .cool => r.placeCooling outage latch
  | .rest => r.placeTumbling outage latch count
  | .burstWait => r.placeTumbling outage latch count
  | .burst => r.placeTumbling outage latch count
  | .halted => if latch = true then .ended .faulted else .asRecorded

/-- R151: what the cycle engine takes from the record whatever the placement. -/
def Cycle.fromRecord (r : Record) : Cycle :=
  { Cycle.start with
    program := r.program
    resumed := r.resumed
    heatBarred := r.heatBarred
    highLimitSeen := r.highLimitSeen
    resumeCount := r.resumeCount
    outcome := r.outcome }

/-- R152, R156, R157 and R158: the cycle engine after the decision. -/
def Cycle.placed (r : Record) : Placement → Cycle
  | .asRecorded =>
    if r.phase = .halted then
      { Cycle.fromRecord r with
        phase := .halted
        remainingDry := r.remainingDry
        cool := ⟨r.remainingCool, 0⟩
        window := ⟨r.windowRemaining, 0⟩
        rest := ⟨r.restRemaining, 0⟩
        burst := ⟨r.burstRemaining, 0⟩ }
    else Cycle.fromRecord r
  | .continued phase target dry cool window =>
    { Cycle.fromRecord r with
      phase := phase
      target := target
      remainingDry := dry
      cool := ⟨cool, 0⟩
      window := ⟨window, 0⟩
      resumeCount := r.resumeCount + 1
      resumed := true }
  | .ended outcome => { Cycle.fromRecord r with outcome := outcome }

/-- R159: the RESUME notice. -/
def Part.notifyResume (p : Part) (outage : Option Nat) : Part :=
  p.notifyOwn .resume (some (outage.getD 65535))

/-- R158: the CYCLE END notice of a cycle ended by the decision, with the phase the record showed. -/
def Part.notifyEnded (p : Part) (r : Record) : Placement → Part
  | .ended outcome => p.notify ⟨.cycleEnd, p.station, r.phase, some outcome.code⟩
  | .asRecorded => p
  | .continued _ _ _ _ _ => p

/-- R151: the configuration and the standing. -/
def Part.takeCheckpointConfig (p : Part) (r : Record) : Part :=
  let q := p.setConfig (some r.config)
  if q.ctl.standing = .unconfigured then q.enterStanding .listening else q

/-- R160: DOOR and HIGH LIMIT as they stand right after the decision; DOOR is taken first. -/
def Part.inputsAtDecision (p : Part) : Part :=
  let q := if p.inp.level.door = true then p.doorOpened else p
  if q.inp.level.highLimit = true then q.highLimitTripped else q

/-- R150 to R160: the resume decision, in one event. -/
def Part.resumeDecision (p : Part) (outage : Option Nat) (latch : Bool) : Part :=
  let q := { p with res := { p.res with
      decided := true
      lastOutage := outageOf outage
      lastClass := some (classOf outage) } }
  match q.jrn.newestRecord with
  | none => ((q.notifyResume outage).requestCheckpoint).inputsAtDecision
  | some r =>
    let place := r.place outage latch q.freeCount
    let t := q.takeCheckpointConfig r
    let u := { t with cyc := Cycle.placed r place, freeCount := t.freeCount + 2 }
    (((u.notifyResume outage).notifyEnded r place).requestCheckpoint).inputsAtDecision

/-! ## Power states and reset paths (07, 09) -/

/-- The blocks lose their state (07, R118, R128): only the slots, the pins and the station's number stay. The lost
blocks hold their start values, which nothing can read before the next path sets them (log 8). -/
def Part.lose (p : Part) : Part :=
  { p with
    line := LineUnit.start
    roster := Roster.start
    ctl := Controller.start
    cyc := Cycle.start
    gate := Gate.start
    jrn := { Journal.start p.jrn.slotA p.jrn.slotB with startRead := false }
    port := Port.start
    ntc := NoticeQueue.start
    inp := ⟨⟨false, false, false, false⟩, ⟨false, false, false, false⟩⟩
    res := Resume.start p.res.path }

/-- 09, R146 and Table 9-1: every block takes its start values, the station number is taken from the straps (01,
R24) and the start read begins. The supply monitor's values are the caller's. -/
def Part.startPath (p : Part) (path : ResetPath) : Part :=
  { p.lose with
    station := stationOfStraps p.pins.straps
    jrn := Journal.start p.jrn.slotA p.jrn.slotB
    inp := InputMonitor.preset p.pins
    res := Resume.start path }

/-- 07, R117 first column: a cold entry to SETTLE. -/
def Part.enterSettleCold (p : Part) : Part := { p.startPath .power with sup := Supply.cold }

/-- 07, R117 second column and R130: a warm entry to SETTLE. -/
def Part.enterSettleWarm (p : Part) : Part :=
  { p.startPath .ret with sup := { Supply.cold with
      outage := p.sup.outage
      outagePart := p.sup.outagePart
      outageRunning := p.sup.outageRunning
      doorLatch := p.sup.doorLatch || p.pins.level.door
      warm := true } }

/-- 07, R131: the entry to SETTLE from STANDBY. -/
def Part.leaveStandby (p : Part) : Part :=
  if p.sup.warm = true then p.enterSettleWarm else p.enterSettleCold

/-- The slot being written or erased is left torn when the part enters OFF (08, R140). -/
def Journal.cutOff (j : Journal) : Journal :=
  match j.operation with
  | none => j
  | some (.write n _) => j.withSlot n .torn
  | some (.erase n) => j.withSlot n .torn

/-- 07, R127: a backup collapse. -/
def Part.collapse (p : Part) : Part :=
  { Part.lose { p with jrn := p.jrn.cutOff } with
    sup := { Supply.cold with power := .off, settle := .stopped } }

/-- 07, R128, R130, R131: the entry to STANDBY, with the levels of BACKUP LOW, MAINS and DOOR as they then stand. -/
def Part.enterStandby (p : Part) (warm : Bool) : Part :=
  let q := { p.lose with sup := { Supply.cold with
      power := .standby
      settle := .stopped
      outage := p.sup.outage
      outagePart := p.sup.outagePart
      outageRunning := p.sup.outageRunning
      doorLatch := p.sup.doorLatch || p.pins.level.door
      warm := warm } }
  if q.pins.backupLow = true then q.collapse
  else if q.pins.level.mains = true then q.leaveStandby
  else q

/-- This station has a frame of its own in flight (07, R125): ARBITRATING, SENDING, or in VERDICT as the sender of the
frame, which it still is after interference (01, R6, R9). -/
abbrev LineUnit.ownInFlight (l : LineUnit) : Prop :=
  (l.role = .sender ∧ (l.state = .arbitrating ∨ l.state = .sending ∨ l.state = .verdict)) ∨
    (l.role = .interfered ∧ l.state = .verdict)

/-- The own frame, though no longer driven, has not come to the end of its slot (01, R9; log 22). -/
abbrev LineUnit.ownUnfinished (l : LineUnit) : Prop := l.role = .interfered ∨ l.role = .payloadLost

/-- 07, R125: RIDE ends when both conditions hold; with an own frame in flight at that moment, at that frame's end. So
where the ride timer's 200 ms are taken before the DARK SENT of the same moment, with FINAL DONE before both, RIDE lasts on
to the end of the DARK's slot: the model follows that paragraph and not the last row of R125's table, by which RIDE ends at
the timer (DEDUCED, log 22). -/
def Part.rideCheck (p : Part) : Part :=
  if p.sup.power = .ride ∧ p.sup.finalWanted = false ∧ (p.sup.darkSent = true ∨ p.sup.ride = .reached) then
    if p.line.ownInFlight then { p with sup := { p.sup with rideHeld := true } }
    else if p.sup.rideHeld = true ∧ p.line.ownUnfinished then p
    else p.enterStandby true
  else p

/-- 09, R146 and 10, R169: STATION RESET is executed. The power state stays RUN; the port keeps the reply DONE. -/
def Part.executeStationReset (p : Part) : Part :=
  Part.answer
    { p.startPath .stationReset with
      sup := { Supply.cold with
        power := .run
        settle := .stopped
        absence := if p.pins.level.mains = true then .stopped else .running 0 }
      port := { Port.start with sdo := p.port.sdo } }
    .done []

/-- 08, R134: the journal reports QUIET, to the port and to the supply monitor. -/
def Part.onQuiet (p : Part) : Part :=
  let q := { p with sup := { p.sup with finalWanted := false } }
  if q.port.held = some .stationReset ∧ q.sup.power = .run then q.executeStationReset else q.rideCheck

/-! ## Applying accepted frames (02, section 2.3) -/

/-- R32: the sender was heard. -/
def Entry.heard (e : Entry) : Entry := { e with presence := .present, sinceHeard := 0 }

/-- R32, R34, R36, R37, R38: the sender's entry after an accepted frame. -/
def Entry.applied (e : Entry) (body : Body) : Entry :=
  match body with
  | .dark => { e with presence := .dark, held := 0, sinceHeard := 0, mismatch := false }
  | .drop _ after => { e.heard with held := after.toNat }
  | .take _ after => { e.heard with held := after.toNat }
  | .lane _ => e.heard
  | .hold standing held budget phaseClass =>
    { e.heard with
      declaredStanding := some (if standing = 0 then .active else .isolated)
      held := held.toNat
      declaredBudget := some (budget.toNat + 1)
      phaseClass := PhaseClass.ofCode phaseClass.toNat }

/-- R37: the spacing an accepted LANE starts, in ms. -/
def Part.spacing (p : Part) : Nat :=
  match p.ctl.config with
  | some c => c.spacing * 1000
  | none => 10000

/-- R37: the lane record after an accepted frame. -/
def Part.applyLane (p : Part) (f : Frame) : Part :=
  match f.body with
  | .lane _ => { p with roster := { p.roster with lane := some ⟨stationOfField f.station, p.spacing⟩ } }
  | .dark => p
  | .drop _ _ => p
  | .hold _ _ _ _ => p
  | .take _ _ => p

/-- R35: a HOLD of another station that declares another budget. -/
def Part.budgetMismatch (p : Part) (f : Frame) : Part :=
  let i := stationOfField f.station
  match f.body, p.ctl.config with
  | .hold _ _ budget _, some c =>
    if i ≠ p.station ∧ budget.toNat + 1 ≠ c.budget ∧ (p.roster.entry i).mismatch = false then
      Part.notify { p with roster := p.roster.withEntry i { p.roster.entry i with mismatch := true } }
        ⟨.budgetMismatch, i, p.cyc.phase, some (budget.toNat + 1)⟩
    else p
  | _, _ => p

/-- R32 to R38 and R47: an accepted frame is applied to its sender's entry, then the lane record, then the excess
check is made. -/
def Part.applyFrame (p : Part) (f : Frame) : Part :=
  let i := stationOfField f.station
  let q := { p with roster := p.roster.withEntry i ((p.roster.entry i).applied f.body) }
  ((q.budgetMismatch f).applyLane f).excessCheck

/-- R39: an accepted frame that bears the own number but was not sent here leaves the own entry as it was. -/
def Part.applyOwnNumber (p : Part) (f : Frame) : Part := (p.applyLane f).excessCheck

/-- 03, R60, R62 to R70: the standing controller takes OWN ACCEPTED, after the roster has applied the frame. -/
def Part.ownAccepted (p : Part) (f : Frame) : Part :=
  let kind := f.kind
  let q := { p with ctl := { p.ctl with
      send := { p.ctl.send with
        hold := p.ctl.send.hold && decide (kind ≠ .hold)
        dark := p.ctl.send.dark && decide (kind ≠ .dark) }
      unheard := if p.ctl.unheard.isRunning = true then .running 0 else p.ctl.unheard
      shed := if p.ownHeld = 0 then false else p.ctl.shed || decide (p.ctl.standing ≠ .active)
      takeVoids := if kind = .take ∨ kind = .hold then 0 else p.ctl.takeVoids
      waitAge := if kind = .lane ∨ (kind = .take ∧ p.cyc.heatWant ≤ p.ownHeld) then 0 else p.ctl.waitAge } }
  match kind with
  | .hold => if q.ctl.standing = .isolated then q.changeStanding .listening else q
  | .lane => if q.ctl.standing = .active then q.laneGrant else q
  | .dark => { q with sup := { q.sup with darkSent := true } }
  | .drop => q
  | .take => q

/-- 03, R67: the standing controller takes OWN VOIDED. -/
def Part.ownVoided (p : Part) (f : Frame) : Part :=
  if f.kind = .take then
    { p with ctl := { p.ctl with takeVoids := min 4 (p.ctl.takeVoids + 1) } }
  else p

/-! ## Composing and starting a frame (01, R5; 03, R63 to R69) -/

/-- 03, R63: the kind offered: the lowest in the set; in ISOLATED, HOLD only when the heat is off. -/
def Part.offered (p : Part) : Option Kind :=
  if p.ctl.send.dark = true then some .dark
  else if p.ctl.send.drop = true then some .drop
  else if p.ctl.send.hold = true ∧ (p.ctl.standing = .isolated → p.gate.heatOff) then some .hold
  else if p.ctl.send.take = true then some .take
  else if p.ctl.send.lane = true then some .lane
  else none

/-- 03, Table 3-2: the phase class a HOLD declares. -/
def Cycle.phaseClass (c : Cycle) : PhaseClass :=
  match c.phase with
  | .idle => .idle
  | .startWait => if c.target = .cool then .cool else if c.resumed = true then .dryResumed else .dry
  | .spinup => if c.target = .cool then .cool else if c.resumed = true then .dryResumed else .dry
  | .dry => if c.resumed = true then .dryResumed else .dry
  | .cool => .cool
  | .rest => .crease
  | .burstWait => .crease
  | .burst => .crease
  | .halted => .halted

/-- 03, R66: the stages a TAKE adds. -/
def Part.stagesAdded (p : Part) : Nat := min (p.cyc.heatWant - p.ownHeld) p.freeStages

/-- The aging code of TAKE and LANE (03, R70). -/
def Part.agingCode (p : Part) : BitVec 4 := BitVec.ofNat 4 (15 - p.ctl.waitAge)

/-- 01, R7; 03, R64 to R69: the frame of a kind, from the state of the moment. -/
def Part.compose (p : Part) (kind : Kind) : Frame :=
  let station := fieldOfStation p.station
  match kind with
  | .dark => ⟨0, 15, station, .dark⟩
  | .drop =>
    ⟨0, 15, station, .drop (BitVec.ofNat 2 (p.ownHeld - p.dropTarget)) (BitVec.ofNat 2 p.dropTarget)⟩
  | .hold =>
    ⟨0, 15, station,
      .hold (if p.ctl.standing = .isolated then 1 else 0)
        (if p.ctl.standing = .isolated then 0 else BitVec.ofNat 2 p.ownHeld)
        (BitVec.ofNat 5 (p.ownBudget.getD 1 - 1)) (BitVec.ofNat 3 p.cyc.phaseClass.code)⟩
  | .take =>
    ⟨if p.cyc.resumed = true then 0 else 1, p.agingCode, station,
      .take (BitVec.ofNat 2 p.stagesAdded) (BitVec.ofNat 2 (p.ownHeld + p.stagesAdded))⟩
  | .lane =>
    let urgency := BitVec.ofNat 2 (p.cyc.laneWant.getD 0)
    ⟨urgency, p.agingCode, station, .lane urgency⟩

/-- 01, R5: the line unit asks for a frame and begins its start mark; the request is the transmission attempt, at
which the standing timer is armed (03, R62). With no kind offered it drives nothing. -/
def Part.startFrame (p : Part) : Part :=
  match p.offered with
  | none => p
  | some kind =>
    { p with
      line := { p.line with
        state := .arbitrating
        role := .sender
        sent := some (p.compose kind).composed
        received := none
        recessive := 0 }
      ctl := { p.ctl with unheard :=
        if p.ctl.standing = .active ∧ p.ctl.unheard = .stopped then .running 0 else p.ctl.unheard } }

/-! ## Conflict objections (02, R43 to R46) -/

/-- R44: the prospective effective budget, with the sender's entry PRESENT. -/
def Part.prospectiveBudget (p : Part) (i : Station) : Option Nat :=
  (p.roster.withEntry i { p.roster.entry i with presence := .present }).effectiveBudget p.ownBudget

/-- R44 to R46: the roster's conflict objection to a clean frame. -/
def Part.conflict (p : Part) (f : Frame) : Bool :=
  let i := stationOfField f.station
  let e := p.roster.entry i
  match f.body with
  | .take added after =>
    (match p.prospectiveBudget i with
      | none => true
      | some budget => decide (budget < p.roster.heldTotal - e.counted + after.toNat)) ||
    (decide (e.presence = .present) && decide (e.held ≠ after.toNat - added.toNat))
  | .lane _ => p.roster.lane.isSome
  | .dark => false
  | .drop _ _ => false
  | .hold _ _ _ _ => false

/-- R20, R43: a receiver drives the verdict slot for an error unless DEAF, for a conflict when ACTIVE. The standing is
read once, at the end of the closing spacer, and the objection stands though the standing changes before the slot ends
(DESIGN CHOICE, log 29). -/
def Part.objects (p : Part) (f : Frame) (error : Bool) : Bool :=
  if error = true then decide (p.ctl.standing ≠ .deaf)
  else decide (p.ctl.standing = .active) && p.conflict f

end Sys2Proof.Machine
end

