-- ==== Sys2Proof/Machine/Claims.lean ====
section
/-! DEFINITION. The meanings of the roster's and the standing controller's timers (02, 03). -/

namespace Sys2Proof.Machine

/-- The spacing remaining has reached 0 (R29). -/
def Roster.laneDue (r : Roster) : Bool := decide (r.lane.map (·.remaining) = some 0)

/-- LANE_SPACING_EXPIRY (02, R29; 03, R68): the holder is cleared, and LANE FREED reaches the pending-send set. A
spacing that a LANE taken first has restarted does not expire. -/
def onLaneSpacingExpiry (p : Part) : Part :=
  if p.works ∧ p.roster.laneDue = true then
    Part.settle { p with roster := { p.roster with lane := none } }
  else p

/-- LANE_SPACING_EXPIRY (R29). -/
def execLaneSpacingExpiry (s : State) : Host.Outcome State Fault Refusal := s.runs onLaneSpacingExpiry

/-- R42: the entry is PRESENT and has not been heard for 6.0 s. -/
def Entry.agedOut (e : Entry) : Bool := decide (e.presence = .present ∧ agingLimit ≤ e.sinceHeard)

/-- R42: an entry becomes LOST. -/
def Entry.aged (e : Entry) : Entry := { e with presence := .lost, held := 0, mismatch := false }

/-- ENTRY_AGED_LOST (02, R42): no excess check is made, for the held total only falls. An entry whose measure a frame
taken first has restarted does not become LOST. -/
def onEntryAgedLost (i : Station) (p : Part) : Part :=
  if p.works ∧ i ≠ p.station ∧ (p.roster.entry i).agedOut = true then
    Part.settle
      (Part.notify { p with roster := p.roster.withEntry i (p.roster.entry i).aged } ⟨.lost, i, p.cyc.phase, none⟩)
  else p

/-- ENTRY_AGED_LOST (R42). -/
def execEntryAgedLost (i : Station) (s : State) : Host.Outcome State Fault Refusal := s.runs (onEntryAgedLost i)

/-- LISTEN_TIMER_EXPIRY (03, R53). -/
def onListenTimerExpiry (p : Part) : Part :=
  if p.works ∧ p.ctl.standing = .listening ∧ p.ctl.listen.isDue listenLimit = true then
    (p.changeStanding .active).settle
  else p

/-- LISTEN_TIMER_EXPIRY (R53). -/
def execListenTimerExpiry (s : State) : Host.Outcome State Fault Refusal := s.runs onListenTimerExpiry

/-- R64, R70: what a census expiry does. -/
def Part.census (p : Part) : Part :=
  { p with ctl := { p.ctl with
      send := { p.ctl.send with hold := true }
      waitAge := if p.wantUnmet then min 15 (p.ctl.waitAge + 1) else p.ctl.waitAge
      census := .running 0 } }

/-- CENSUS_TIMER_EXPIRY (03, R55, R64, R70). -/
def onCensusTimerExpiry (p : Part) : Part :=
  if p.works ∧ (p.ctl.standing = .active ∨ p.ctl.standing = .isolated) ∧ p.ctl.census.isDue censusLimit = true then
    p.census.settle
  else p

/-- CENSUS_TIMER_EXPIRY (R64). -/
def execCensusTimerExpiry (s : State) : Host.Outcome State Fault Refusal := s.runs onCensusTimerExpiry

/-- STANDING_TIMER_EXPIRY (03, R62): the station sheds itself. -/
def onStandingTimerExpiry (p : Part) : Part :=
  if p.works ∧ p.ctl.standing = .active ∧ p.ctl.unheard.isDue standingLimit = true then
    (p.faultStanding .isolated .selfShed).settle
  else p

/-- STANDING_TIMER_EXPIRY (R62). -/
def execStandingTimerExpiry (s : State) : Host.Outcome State Fault Refusal := s.runs onStandingTimerExpiry

end Sys2Proof.Machine
end

