-- ==== Sys2Proof/Machine/CycleEvents.lean ====
section
/-! DEFINITION. The meanings of the cycle engine's own counters and timers (04, 05). Each is taken only in RUN, for the
engine is frozen in every other power state (R71, R90). -/

namespace Sys2Proof.Machine

/-- 04, R78: both conditions of credit hold. -/
abbrev Part.credited (p : Part) : Prop :=
  p.engineRuns ∧ p.cyc.phase = .dry ∧ p.gate.runningIndication ∧ 1 ≤ p.ctl.permit

/-- CREDIT_SECOND (04, R78, R82): a whole credited second. Where an event taken first has stopped the credit, the second
is not taken: the fraction stays at 1000 ms and the second is taken at once when credit resumes (DESIGN CHOICE,
log 31). A DRY entered with remaining dry already 0 ends here too, after one credited second (DESIGN CHOICE, log 32). -/
def onCreditSecond (p : Part) : Part :=
  if p.credited ∧ 1000 ≤ p.cyc.credit then
    let q := { p with cyc := { p.cyc with remainingDry := p.cyc.remainingDry - 1, credit := 0 } }
    (if q.cyc.remainingDry = 0 then q.endDrying else q).settle
  else p

/-- CREDIT_SECOND (R78). -/
def execCreditSecond (s : State) : Host.Outcome State Fault Refusal := s.runs onCreditSecond

/-- END_OF_COOLING (04, R83): remaining cool has reached 0. -/
def onEndOfCooling (p : Part) : Part :=
  if p.engineRuns ∧ p.cyc.phase = .cool ∧ p.cyc.cool.isDue = true then p.endCooling.settle else p

/-- END_OF_COOLING (R83). -/
def execEndOfCooling (s : State) : Host.Outcome State Fault Refusal := s.runs onEndOfCooling

/-- HEAT_STARVED (04, R80): the starvation timer has reached 1 800 s. -/
def onHeatStarved (p : Part) : Part :=
  if p.engineRuns ∧ p.cyc.phase = .dry ∧ 0 < p.cyc.heatWant ∧ p.ownHeld = 0 ∧ p.cyc.starvationReported = false ∧
      starvationLimit ≤ p.cyc.starvation then
    Part.notifyOwn
      { p with cyc := { p.cyc with starvation := starvationLimit, starvationReported := true } }
      .heatStarved (some p.cyc.remainingDry)
  else p

/-- HEAT_STARVED (R80). -/
def execHeatStarved (s : State) : Host.Outcome State Fault Refusal := s.runs onHeatStarved

/-- CHECKPOINT_TIMER_EXPIRY (04, R92): the periodic request; the timer restarts. -/
def onCheckpointTimerExpiry (p : Part) : Part :=
  if p.engineRuns ∧ p.cyc.checkpointTimer.isDue checkpointLimit = true then
    Part.requestCheckpoint { p with cyc := { p.cyc with checkpointTimer := .running 0 } }
  else p

/-- CHECKPOINT_TIMER_EXPIRY (R92). -/
def execCheckpointTimerExpiry (s : State) : Host.Outcome State Fault Refusal := s.runs onCheckpointTimerExpiry

/-- REST_EXPIRY (05, R95): rest remaining reaches 0 while window remaining is above 0. -/
def onRestExpiry (p : Part) : Part :=
  if p.engineRuns ∧ p.cyc.phase = .rest ∧ 0 < p.cyc.window.seconds ∧ p.cyc.rest.isDue = true then
    (Part.changePhase { p with cyc := { p.cyc with rest := ⟨0, 0⟩ } } .burstWait).settle
  else p

/-- REST_EXPIRY (R95). -/
def execRestExpiry (s : State) : Host.Outcome State Fault Refusal := s.runs onRestExpiry

/-- 05, R98: the end of a burst. -/
def Part.endBurst (p : Part) : Part :=
  let q := { p with cyc := { p.cyc with burst := ⟨0, 0⟩ } }
  if 0 < q.cyc.window.seconds then
    Part.changePhase { q with cyc := { q.cyc with rest := ⟨q.cyc.restMinutes * 60, 0⟩ } } .rest
  else q.endCycle q.cyc.completion

/-- BURST_END (05, R98): burst remaining reaches 0. -/
def onBurstEnd (p : Part) : Part :=
  if p.engineRuns ∧ p.cyc.phase = .burst ∧ p.cyc.burst.isDue = true then p.endBurst.settle else p

/-- BURST_END (R98). -/
def execBurstEnd (s : State) : Host.Outcome State Fault Refusal := s.runs onBurstEnd

/-- WINDOW_EXPIRY (05, R99): window remaining reaches 0. -/
def onWindowExpiry (p : Part) : Part :=
  let q := { p with cyc := { p.cyc with window := ⟨0, 0⟩ } }
  if p.engineRuns ∧ p.cyc.window.lastOver = true ∧ (p.cyc.phase = .rest ∨ p.cyc.phase = .burstWait) then
    (q.endCycle q.cyc.completion).settle
  else if p.engineRuns ∧ p.cyc.window.lastOver = true ∧ p.cyc.phase = .burst then q
  else p

/-- WINDOW_EXPIRY (R99). -/
def execWindowExpiry (s : State) : Host.Outcome State Fault Refusal := s.runs onWindowExpiry

end Sys2Proof.Machine
end

