-- ==== Sys2Proof/Machine/GateEvents.lean ====
section
/-! DEFINITION. The meanings of the input monitor's and the output gate's commands (06; 10, R174; 07, R130). -/

namespace Sys2Proof.Machine

/-! ## Inputs -/

/-- One input's bit. -/
def Levels.get (l : Levels) : Input → Bool
  | .door => l.door
  | .exhaustHot => l.exhaustHot
  | .highLimit => l.highLimit
  | .mains => l.mains

/-- One input's bit written. -/
def Levels.with (l : Levels) (i : Input) (b : Bool) : Levels :=
  match i with
  | .door => { l with door := b }
  | .exhaustHot => { l with exhaustHot := b }
  | .highLimit => { l with highLimit := b }
  | .mains => { l with mains := b }

/-- The value of an INPUT CHANGE notice (10, R174). -/
def changeValue (i : Input) (active : Bool) : Nat := Input.code i + (if active = true then 0 else 16)

/-- 06, R109: EXHAUST HOT becomes active: a stage past its min-on goes off, the others wait for theirs; one energized
by an event that falls together with this one does not come on (R116; log 1). -/
def StageGate.heated (g : StageGate) : StageGate :=
  if g.on = true then
    if heatMinOnLimit ≤ g.minOn ∨ g.minOn = 0 then g.deenergized else { g with turnOffPending := true }
  else g

/-- 06, R109: EXHAUST HOT becomes inactive, which cancels a pending turn-off. Where the min-on timer stands at its 10 s
the two fall together, and the stage goes off in either order (R116, last paragraph; log 34). -/
def StageGate.cooled (g : StageGate) : StageGate :=
  if g.on = true ∧ g.turnOffPending = true ∧ heatMinOnLimit ≤ g.minOn then g.deenergized
  else { g with turnOffPending := false }

/-- The door latch's power states (07, R130): RIDE, STANDBY, and SETTLE and QUALIFY of a warm return. -/
abbrev Supply.latches (u : Supply) : Prop :=
  u.power = .ride ∨ u.power = .standby ∨ (u.warm = true ∧ (u.power = .settle ∨ u.power = .qualify))

/-- The door latch is set. -/
def Part.latchDoor (p : Part) : Part := { p with sup := { p.sup with doorLatch := true } }

/-- What the blocks make of a change of DOOR (04, R87; 07, R130); closing is no event of theirs. -/
def Part.doorChanged (p : Part) (active : Bool) : Part :=
  if active = true then
    if p.sup.power = .run then p.doorOpened
    else if p.sup.latches then p.latchDoor
    else p
  else p

/-- What the gate makes of a change of EXHAUST HOT (06, R109). -/
def Part.exhaustChanged (p : Part) (active : Bool) : Part :=
  if active = true then
    { p with gate := { p.gate with heat1 := p.gate.heat1.heated, heat2 := p.gate.heat2.heated } }
  else { p with gate := { p.gate with heat1 := p.gate.heat1.cooled, heat2 := p.gate.heat2.cooled } }

/-- What the cycle engine makes of a change of HIGH LIMIT (04, R88). -/
def Part.highLimitChanged (p : Part) (active : Bool) : Part :=
  if active = true ∧ p.sup.power = .run then p.highLimitTripped else p

/-- What the supply monitor makes of a change of MAINS (07, R120, R122); in SETTLE and RIDE it is not taken. In RUN an
absence timer that has reached its 40 ms stays there: the declaration is taken in either order (R116, log 34). -/
def Part.mainsChanged (p : Part) (active : Bool) : Part :=
  if p.sup.power = .run then
    if p.sup.absence.isDue absenceLimit = true then p
    else { p with sup := { p.sup with absence := if active = true then .stopped else .running 0 } }
  else if p.sup.power = .qualify then
    { p with sup := { p.sup with
        absence := if active = true then .stopped else .running 0
        qualification := if active = true then .running 0 else .stopped } }
  else p

/-- The blocks that use the input take its change. -/
def Part.inputTaken (p : Part) (i : Input) (active : Bool) : Part :=
  match i with
  | .door => p.doorChanged active
  | .exhaustHot => p.exhaustChanged active
  | .highLimit => p.highLimitChanged active
  | .mains => p.mainsChanged active

/-- 10, R174: the debounced level and the delta flag. -/
def InputMonitor.changed (m : InputMonitor) (i : Input) (active : Bool) : InputMonitor :=
  ⟨m.level.with i active, m.delta.with i true⟩

/-- 10, R174: the INPUT CHANGE notice; EXHAUST HOT queues none. -/
def Part.notifyChange (p : Part) (i : Input) (active : Bool) : Part :=
  if i = .exhaustHot then p else p.notifyOwn .inputChange (some (changeValue i active))

/-- 10, R174: a debounced change is taken. -/
def Part.takeChange (p : Part) (i : Input) (active : Bool) : Part :=
  ((Part.inputTaken { p with inp := p.inp.changed i active } i active).notifyChange i active).settle

/-- 07, R128, R130, R131: in STANDBY the supply monitor watches DOOR and MAINS itself. -/
def Part.watchedInStandby (p : Part) (i : Input) (active : Bool) : Part :=
  if p.sup.power = .standby ∧ active = true then
    match i with
    | .door => p.latchDoor
    | .mains => p.leaveStandby
    | .exhaustHot => p
    | .highLimit => p
  else p

/-- INPUT_CHANGE (10, R174): the pin has held the level for 5 ms (log 15, 23). -/
def onInputChange (i : Input) (active : Bool) (p : Part) : Part :=
  let q := { p with pins := { p.pins with level := p.pins.level.with i active } }
  if p.works ∧ p.inp.level.get i ≠ active then q.takeChange i active else q.watchedInStandby i active

/-- INPUT_CHANGE (R174). -/
def execInputChange (i : Input) (active : Bool) (s : State) : Host.Outcome State Fault Refusal :=
  s.runs (onInputChange i active)

/-- DOOR_LATCH_SET (07, R130): DOOR is found active while the mains is absent. -/
def onDoorLatchSet (p : Part) : Part :=
  if p.sup.power = .standby then
    Part.latchDoor { p with pins := { p.pins with level := { p.pins.level with door := true } } }
  else if p.sup.latches then p.latchDoor
  else p

/-- DOOR_LATCH_SET (R130). -/
def execDoorLatchSet (s : State) : Host.Outcome State Fault Refusal := s.runs onDoorLatchSet

/-! ## Heater stages -/

/-- One stage's gate. -/
def Gate.stage (g : Gate) : HeatStage → StageGate
  | .one => g.heat1
  | .two => g.heat2

/-- One stage's gate written. -/
def Gate.withStage (g : Gate) (n : HeatStage) (x : StageGate) : Gate :=
  match n with
  | .one => { g with heat1 := x }
  | .two => { g with heat2 := x }

/-- HEAT_MIN_OFF_ELAPSED (06, R107): the stage's min-off has reached 10 s; it is energized if every other condition
holds. -/
def onHeatMinOffElapsed (n : HeatStage) (p : Part) : Part :=
  if p.works ∧ (p.gate.stage n).minOff.isDue heatMinOffLimit = true then
    Part.settle { p with gate := p.gate.withStage n { p.gate.stage n with minOff := .reached } }
  else p

/-- HEAT_MIN_OFF_ELAPSED (R107). -/
def execHeatMinOffElapsed (n : HeatStage) (s : State) : Host.Outcome State Fault Refusal :=
  s.runs (onHeatMinOffElapsed n)

/-- 06, R109: min-on reached with a turn-off pending. -/
def StageGate.minOnReached (g : StageGate) (exhaustHot : Bool) : StageGate :=
  if exhaustHot = true then g.deenergized else { g with minOn := heatMinOnLimit, turnOffPending := false }

/-- HEAT_MIN_ON_REACHED (06, R109): the gate reads EXHAUST HOT as the input monitor then has it. -/
def onHeatMinOnReached (n : HeatStage) (p : Part) : Part :=
  if p.works ∧ (p.gate.stage n).on = true ∧ (p.gate.stage n).turnOffPending = true ∧
      heatMinOnLimit ≤ (p.gate.stage n).minOn then
    Part.settle
      { p with gate := p.gate.withStage n ((p.gate.stage n).minOnReached p.inp.level.exhaustHot) }
  else p

/-- HEAT_MIN_ON_REACHED (R109). -/
def execHeatMinOnReached (n : HeatStage) (s : State) : Host.Outcome State Fault Refusal :=
  s.runs (onHeatMinOnReached n)

/-- 06, R110: the grace timer counts. -/
abbrev Part.graceRuns (p : Part) : Prop :=
  p.inp.level.exhaustHot = true ∧ p.cyc.phase = .dry ∧ 1 ≤ p.ownHeld ∧ p.gate.report = false

/-- THERMOSTAT_GRACE_EXPIRY (06, R110): the grace timer has reached 30 s; the report stands. Where the own held stages
fall to 0 at the same moment and are taken first, the timer no longer counts and the report waits until stages are held
again (DESIGN CHOICE, log 35). -/
def onThermostatGraceExpiry (p : Part) : Part :=
  if p.works ∧ p.graceRuns ∧ graceLimit ≤ p.gate.grace then
    Part.settle { p with gate := { p.gate with grace := graceLimit, report := true } }
  else p

/-- THERMOSTAT_GRACE_EXPIRY (R110). -/
def execThermostatGraceExpiry (s : State) : Host.Outcome State Fault Refusal := s.runs onThermostatGraceExpiry

/-! ## The motor and the rotation watch -/

/-- MOTOR_MIN_OFF_ELAPSED (06, R112, R113): MOTOR may start on a standing order, and LANE may be sent. -/
def onMotorMinOffElapsed (p : Part) : Part :=
  if p.works ∧ p.gate.motorMinOff.isDue motorMinOffLimit = true then
    Part.settle { p with gate := { p.gate with motorMinOff := .reached } }
  else p

/-- MOTOR_MIN_OFF_ELAPSED (R113). -/
def execMotorMinOffElapsed (s : State) : Host.Outcome State Fault Refusal := s.runs onMotorMinOffElapsed

/-- TACH_PULSE (06, R114, R115): a pulse with no watch is not counted. -/
def onTachPulse (p : Part) : Part :=
  if p.works then
    match p.gate.watch with
    | .none => p
    | .confirming =>
      (Part.rotationConfirmed { p with gate := { p.gate with watch := .running, rotation := .running 0 } }).settle
    | .running => { p with gate := { p.gate with rotation := .running 0 } }
  else p

/-- TACH_PULSE (R114, R115). -/
def execTachPulse (s : State) : Host.Outcome State Fault Refusal := s.runs onTachPulse

/-- NO_ROTATION (06, R114; 04, R85; 05, R97): the confirm timer has reached 3.0 s. -/
def onNoRotation (p : Part) : Part :=
  if p.works ∧ p.gate.watch = .confirming ∧ p.gate.rotation.isDue rotationLimit = true then
    let q := { p with gate := p.gate.motorOff }
    (if q.engineRuns ∧ (q.cyc.phase = .spinup ∨ q.cyc.phase = .burst) then q.haltCycle .noRotation else q).settle
  else p

/-- NO_ROTATION (R114). -/
def execNoRotation (s : State) : Host.Outcome State Fault Refusal := s.runs onNoRotation

/-- ROTATION_LOST (06, R115; 04, R86): the loss timer has reached 3.0 s; a pulse taken first has restarted it, and then
nothing is reported. -/
def onRotationLost (p : Part) : Part :=
  if p.works ∧ p.gate.watch = .running ∧ p.gate.rotation.isDue rotationLimit = true then
    let q := { p with gate := p.gate.motorOff }
    (if q.engineRuns ∧ (q.cyc.phase = .dry ∨ q.cyc.phase = .cool ∨ q.cyc.phase = .burst) then q.haltCycle .rotationLost
      else q).settle
  else p

/-- ROTATION_LOST (R115). -/
def execRotationLost (s : State) : Host.Outcome State Fault Refusal := s.runs onRotationLost

end Sys2Proof.Machine
end

