-- ==== Sys2Proof/Machine/Line.lean ====
section
/-! DEFINITION. The meanings of the group line's commands (01). Each acts in the line states its rule names and leaves
the part as it is in the others (log 2); `onX` is the effect on the part, `execX` the meaning. -/

namespace Sys2Proof.Machine

/-! ## Parts of the line unit's events -/

/-- The line unit receives a new frame; the courtesy-gap timer clears, for the start mark is another station's (R6,
R16). -/
def LineUnit.receiveNew (l : LineUnit) : LineUnit :=
  { l with state := .receiving, role := .receiver, sent := none, received := none, recessive := 0, courtesy := false }

/-- The line unit leaves its frame for the busy line (R4, R21). -/
def LineUnit.toIdle (l : LineUnit) (recessive : Nat) : LineUnit :=
  { l with state := .idle, role := .none, sent := none, received := none, recessive := recessive }

/-- A new start mark is taken while a frame is in hand or none: the frame in hand ends without a verdict. -/
def Part.receiveNew (p : Part) : Part := { p with line := p.line.receiveNew }

/-- The sender goes on as a receiver of the frame it can no longer drive (R9). -/
def Part.follow (p : Part) (role : Role) : Part :=
  { p with line := { p.line with
      state := .receiving
      role := role
      sent := if role = .interfered then p.line.sent else none
      received := none } }

/-- What a line event ends in: the derived state, then the end of RIDE if it waited for this frame (07, R125). -/
def Part.afterLine (p : Part) : Part := p.settle.rideCheck

/-- R18: the frame being received is SHORT; an own frame in hand is cut short (R9), and neither scored nor applied. -/
def Part.cutByStartMark (p : Part) : Part :=
  if p.line.role = .interfered then p.receiveNew else p.receiveNew.scoreError

/-! ## R20, R21: the verdict -/

/-- The recessive bit times after the slot (R4). -/
def LineUnit.recessiveAfterSlot (l : LineUnit) (first second : Bool) : Nat :=
  if second = true then 0 else if first = true then 1 else min 19 (l.recessive + 2)

/-- R21: the outcome of the own frame goes to the roster and on to the standing controller. -/
def Part.ownVerdict (p : Part) (f : Frame) (voided : Bool) : Part :=
  if voided = true then p.ownVoided f else (p.applyFrame f).ownAccepted f

/-- R10, R21, R22: the outcome of a frame received to the end of its slot. -/
def Part.receivedVerdict (p : Part) (r : ReceivedFrame) (voided : Bool) : Part :=
  if r.error = true then p.scoreError
  else
    Part.scoreClean
      (if voided = true then p
      else if stationOfField r.frame.station = p.station then (p.applyOwnNumber r.frame).onDuplicateStation
      else p.applyFrame r.frame)

/-- R20, R21: the end of the verdict slot of the frame in hand, with the line dominant or not at the two sample
points; a station that objects reads its own drive. -/
def Part.verdict (p : Part) (first second : Bool) : Part :=
  match p.line.role with
  | .sender =>
    match p.line.sent with
    | none => { p with line := p.line.toIdle (p.line.recessiveAfterSlot first second) }
    | some s =>
      Part.ownVerdict
        { p with line := { p.line.toIdle (p.line.recessiveAfterSlot first second) with courtesy := true } }
        s.frame (first || second)
  | .interfered =>
    match p.line.sent with
    | none => { p with line := p.line.toIdle (p.line.recessiveAfterSlot first second) }
    | some s =>
      Part.ownVerdict
        { p with line := { p.line.toIdle (p.line.recessiveAfterSlot first second) with courtesy := true } }
        s.frame true
  | .receiver => received p
  | .payloadLost => received p
  | .none => { p with line := p.line.toIdle (p.line.recessiveAfterSlot first second) }
where
  /-- The end of the slot of a frame this station received. -/
  received (p : Part) : Part :=
    match p.line.received with
    | none => { p with line := p.line.toIdle (p.line.recessiveAfterSlot first second) }
    | some r =>
      Part.receivedVerdict
        { p with line := p.line.toIdle (p.line.recessiveAfterSlot (first || r.objects) (second || r.objects)) }
        r (first || second || r.objects)

/-! ## The commands -/

/-- The conditions of R5 but the pending-send set's. -/
abbrev Part.mayStart (p : Part) : Prop :=
  p.works ∧ p.line.state = .idle ∧ 11 ≤ p.line.recessive ∧ p.line.courtesy = false

/-- TRANSMISSION_START (R5). -/
def onTransmissionStart (p : Part) : Part := if p.mayStart then p.startFrame else p

/-- TRANSMISSION_START (R5). -/
def execTransmissionStart (s : State) : Host.Outcome State Fault Refusal := s.runs onTransmissionStart

/-- START_MARK_RECOGNISED (R3, R6, R9, R16, R18; log 21). In VERDICT the run has reached its 6 bit times in the slot, so
an own frame is voided, not cut short, wherever the run began (R9), and a received one is SHORT only if the run began
before the slot (R18). -/
def onStartMarkRecognised (inSlot : Bool) (p : Part) : Part :=
  if p.works then
    match p.line.state with
    | .idle => p.receiveNew
    | .arbitrating => { p with line := { p.line with courtesy := false, recessive := 0 } }
    | .sending => p.receiveNew.afterLine
    | .receiving => p.cutByStartMark.afterLine
    | .verdict =>
      if inSlot = true ∨ p.line.role = .sender ∨ p.line.role = .interfered then
        let q := (p.verdict true true).afterLine
        if q.works then q.receiveNew else q
      else p.receiveNew.scoreError.afterLine
    | .stuck => p
  else p

/-- START_MARK_RECOGNISED (R16). -/
def execStartMarkRecognised (inSlot : Bool) (s : State) : Host.Outcome State Fault Refusal :=
  s.runs (onStartMarkRecognised inSlot)

/-- ARBITRATION_LOST (R8). -/
def onArbitrationLost (p : Part) : Part :=
  if p.works ∧ p.line.state = .arbitrating then (p.follow .receiver).rideCheck else p

/-- ARBITRATION_LOST (R8). -/
def execArbitrationLost (s : State) : Host.Outcome State Fault Refusal := s.runs onArbitrationLost

/-- ARBITRATION_WON (R8): the moment at which the line state becomes SENDING, at the thirteenth key bit or at the spacer
after it (log 39). -/
def onArbitrationWon (p : Part) : Part :=
  if p.works ∧ p.line.state = .arbitrating then { p with line := { p.line with state := .sending } } else p

/-- ARBITRATION_WON (R8). -/
def execArbitrationWon (s : State) : Host.Outcome State Fault Refusal := s.runs onArbitrationWon

/-- PAYLOAD_LOSS (R9): dominant read on a body bit driven recessive. A body bit comes after the whole key, so a sender
still ARBITRATING, which R8 makes SENDING at the spacer after frame bit 16 and R24 at the end of the key, takes it as one
that is SENDING (DESIGN CHOICE, log 39). -/
def onPayloadLoss (startMark : Bool) (p : Part) : Part :=
  if p.works ∧ (p.line.state = .arbitrating ∨ p.line.state = .sending) then
    if startMark = true then p.receiveNew.afterLine else (p.follow .payloadLost).onDuplicateStation.afterLine
  else p

/-- PAYLOAD_LOSS (R9). -/
def execPayloadLoss (startMark : Bool) (s : State) : Host.Outcome State Fault Refusal :=
  s.runs (onPayloadLoss startMark)

/-- INTERFERENCE (R9): any other mismatch. -/
def onInterference (startMark : Bool) (p : Part) : Part :=
  if p.works ∧ (p.line.state = .arbitrating ∨ p.line.state = .sending) then
    if startMark = true then p.receiveNew.afterLine else (p.follow .interfered).rideCheck
  else p

/-- INTERFERENCE (R9). -/
def execInterference (startMark : Bool) (s : State) : Host.Outcome State Fault Refusal :=
  s.runs (onInterference startMark)

/-- INVALID_KIND_ABANDON (R16). -/
def onInvalidKindAbandon (kind : BitVec 3) (p : Part) : Part :=
  if (Instr.invalidKindAbandon kind).wellFormed = true ∧ p.works ∧ p.line.state = .receiving ∧
      p.line.role = .receiver then
    (Part.scoreError { p with line := p.line.toIdle 0 }).settle
  else p

/-- INVALID_KIND_ABANDON (R16). -/
def execInvalidKindAbandon (kind : BitVec 3) (s : State) : Host.Outcome State Fault Refusal :=
  s.runs (onInvalidKindAbandon kind)

/-- R16, R19, R20: what a receiver knows at the end of the closing spacer. -/
def Part.received (p : Part) (f : Frame) (error : Bool) : ReceivedFrame := ⟨f, error, p.objects f error⟩

/-- CLOSING_SPACER_END (R16, R19, R20, R43 to R46). -/
def onClosingSpacerEnd (bits : List Bit) (p : Part) : Part :=
  if (Instr.closingSpacerEnd bits).wellFormed = true ∧ p.works then
    match p.line.state, p.line.role with
    | .sending, _ => { p with line := { p.line with state := .verdict, recessive := trailingRecessive bits } }
    | .receiving, .interfered =>
      { p with line := { p.line with state := .verdict, recessive := trailingRecessive bits } }
    | .receiving, _ =>
      match readFrame bits with
      | none => p
      | some (frame, error) =>
        { p with line := { p.line with
            state := .verdict
            received := some (p.received frame error)
            recessive := trailingRecessive bits } }
    | _, _ => p
  else p

/-- CLOSING_SPACER_END (R20). -/
def execClosingSpacerEnd (bits : List Bit) (s : State) : Host.Outcome State Fault Refusal :=
  s.runs (onClosingSpacerEnd bits)

/-- VERDICT_SLOT_END (R20, R21, R22). -/
def onVerdictSlotEnd (first second : Bool) (p : Part) : Part :=
  if p.works ∧ p.line.state = .verdict then (p.verdict first second).afterLine else p

/-- VERDICT_SLOT_END (R21). -/
def execVerdictSlotEnd (first second : Bool) (s : State) : Host.Outcome State Fault Refusal :=
  s.runs (onVerdictSlotEnd first second)

/-- LINE_IDLE (R4): 11 recessive bit times have passed. -/
def onLineIdle (p : Part) : Part :=
  if p.works ∧ p.line.state = .idle then
    { p with line := { p.line with recessive := max 11 p.line.recessive } }
  else p

/-- LINE_IDLE (R4). -/
def execLineIdle (s : State) : Host.Outcome State Fault Refusal := s.runs onLineIdle

/-- COURTESY_GAP_END (R6): 19 recessive bit times have passed. -/
def onCourtesyGapEnd (p : Part) : Part :=
  if p.works ∧ p.line.state = .idle ∧ p.line.courtesy = true then
    { p with line := { p.line with courtesy := false, recessive := max 19 p.line.recessive } }
  else p

/-- COURTESY_GAP_END (R6). -/
def execCourtesyGapEnd (s : State) : Host.Outcome State Fault Refusal := s.runs onCourtesyGapEnd

/-- LINE_STUCK (R23, R54). -/
def onLineStuck (p : Part) : Part :=
  if p.works ∧ p.line.state ≠ .stuck then
    (Part.onLineStuck { p with line := { p.line.toIdle 0 with state := .stuck } }).afterLine
  else p

/-- LINE_STUCK (R23). -/
def execLineStuck (s : State) : Host.Outcome State Fault Refusal := s.runs onLineStuck

/-- STUCK_CLEARED (R23). -/
def onStuckCleared (p : Part) : Part :=
  if p.works ∧ p.line.state = .stuck then { p with line := p.line.toIdle 11 } else p

/-- STUCK_CLEARED (R23). -/
def execStuckCleared (s : State) : Host.Outcome State Fault Refusal := s.runs onStuckCleared

/-- The recessive bit times the next start waits for (R5, R6). -/
def LineUnit.wait (l : LineUnit) : Nat := if l.courtesy = true then 19 else 11

/-- LINE_GOES_DOMINANT (R3, R4, R5): within the join window the station takes the edge as its own start. -/
def onLineGoesDominant (recessive : Nat) (p : Part) : Part :=
  if p.works ∧ p.line.state = .idle then
    let q := { p with line := { p.line with recessive := 0 } }
    if p.line.wait - max recessive p.line.recessive ≤ 1 then q.startFrame else q
  else p

/-- LINE_GOES_DOMINANT (R5). -/
def execLineGoesDominant (recessive : Nat) (s : State) : Host.Outcome State Fault Refusal :=
  s.runs (onLineGoesDominant recessive)

end Sys2Proof.Machine
end

