-- ==== Sys2Proof/Machine/SupplyEvents.lean ====
section
/-! DEFINITION. The meanings of the supply monitor's commands (07; 09, R146 to R160). -/

namespace Sys2Proof.Machine

/-- 07, R123: the supply monitor's own part of the declaration. -/
def Supply.declared (u : Supply) (door : Bool) : Supply :=
  { u with
    power := .ride
    finalWanted := true
    outage := some 0
    outagePart := 0
    outageRunning := true
    doorLatch := door
    ride := .running 0
    absence := .stopped
    darkSent := false
    rideHeld := false }

/-- 10, R169: a held STATION RESET is answered STATE when the supply monitor leaves RUN. -/
def Part.refuseHeldReset (p : Part) : Part :=
  if p.port.held = some .stationReset then p.answer .state [] else p

/-- 03, R58: mains absent declared; BARRED stays. -/
def Part.goDark (p : Part) : Part := if p.ctl.standing = .barred then p else p.changeStanding .dark

/-- 07, R123: FINAL DONE is taken at once if the journal has nothing in hand. -/
def Part.finalCheck (p : Part) : Part :=
  if p.jrn.quiet then { p with sup := { p.sup with finalWanted := false } } else p

/-- 07, R123; 04, R90; 08, R139: the declaration and the entry to RIDE. -/
def Part.declare (p : Part) : Part :=
  ((({ p with sup := p.sup.declared p.inp.level.door }.goDark).requestCheckpoint).refuseHeldReset).finalCheck.settle

/-- MAINS_DECLARED_ABSENT (07, R123, R127): with BACKUP LOW active the entry to RIDE is a collapse (log 24). -/
def onMainsDeclaredAbsent (p : Part) : Part :=
  if p.sup.power = .run ∧ p.sup.absence.isDue absenceLimit = true then
    if p.pins.backupLow = true then p.collapse else p.declare.rideCheck
  else p

/-- MAINS_DECLARED_ABSENT (R123). -/
def execMainsDeclaredAbsent (s : State) : Host.Outcome State Fault Refusal := s.runs onMainsDeclaredAbsent

/-- QUALIFY_DROP (07, R121): nothing is frozen or written. -/
def onQualifyDrop (p : Part) : Part :=
  if p.sup.power = .qualify ∧ p.sup.absence.isDue absenceLimit = true then p.enterStandby p.sup.warm else p

/-- QUALIFY_DROP (R121). -/
def execQualifyDrop (s : State) : Host.Outcome State Fault Refusal := s.runs onQualifyDrop

/-- How long SETTLE lasts: 64 ms after a warm entry, 500 ms after a cold one (07, R119). -/
def Supply.settleLimit (u : Supply) : Nat := if u.warm = true then warmSettleLimit else coldSettleLimit

/-- SETTLE_EXPIRY (07, R119, R120). -/
def onSettleExpiry (p : Part) : Part :=
  if p.sup.power = .settle ∧ p.sup.settle.isDue p.sup.settleLimit = true then
    { p with sup := { p.sup with
        power := .qualify
        settle := .stopped
        qualification := if p.inp.level.mains = true then .running 0 else .stopped
        absence := if p.inp.level.mains = true then .stopped else .running 0 } }
  else p

/-- SETTLE_EXPIRY (R119). -/
def execSettleExpiry (s : State) : Host.Outcome State Fault Refusal := s.runs onSettleExpiry

/-- 09, R147: the outage the decision is given: the clock's value on RETURN, unknown on the other paths. -/
def Part.outageGiven (p : Part) : Option Nat :=
  match p.res.path with
  | .ret => p.sup.outage
  | .power => none
  | .stationReset => none

/-- 09, R147: the door latch the decision is given: taken as clear but on RETURN. -/
def Part.latchGiven (p : Part) : Bool :=
  match p.res.path with
  | .ret => p.sup.doorLatch
  | .power => false
  | .stationReset => false

/-- 07, R120: the supply monitor at the end of qualification. -/
def Supply.qualified (u : Supply) : Supply :=
  { u with
    power := .run
    outageRunning := false
    doorLatch := false
    warm := false
    qualification := .stopped
    absence := .stopped }

/-- 07, R120: the end of qualification and the resume decision, in one event. -/
def Part.qualify (p : Part) : Part :=
  let q := { p with sup := p.sup.qualified }
  (q.resumeDecision p.outageGiven p.latchGiven).settle

/-- END_OF_QUALIFICATION (07, R120); a start read still unfinished is finished first (log 19). -/
def onEndOfQualification (p : Part) : Part :=
  if p.sup.power = .qualify ∧ p.sup.qualification.isDue qualificationLimit = true then
    if p.jrn.startRead = true then p.finishStartRead.qualify else p.qualify
  else p

/-- END_OF_QUALIFICATION (R120). -/
def execEndOfQualification (s : State) : Host.Outcome State Fault Refusal := s.runs onEndOfQualification

/-- RIDE_TIMER_EXPIRY (07, R125): the timer stays at 200 ms. -/
def onRideTimerExpiry (p : Part) : Part :=
  if p.sup.power = .ride ∧ p.sup.ride.isDue rideLimit = true then
    Part.rideCheck { p with sup := { p.sup with ride := .reached } }
  else p

/-- RIDE_TIMER_EXPIRY (R125). -/
def execRideTimerExpiry (s : State) : Host.Outcome State Fault Refusal := s.runs onRideTimerExpiry

/-- BACKUP_COLLAPSE (07, R127): BACKUP LOW taken at a new level; active in RIDE or STANDBY it is a collapse. -/
def onBackupCollapse (low : Bool) (p : Part) : Part :=
  let q := { p with pins := { p.pins with backupLow := low } }
  if low = true ∧ (p.sup.power = .ride ∨ p.sup.power = .standby) then q.collapse else q

/-- BACKUP_COLLAPSE (R127). -/
def execBackupCollapse (low : Bool) (s : State) : Host.Outcome State Fault Refusal := s.runs (onBackupCollapse low)

/-- The pins as a supply that has come back shows them: MAINS active, the straps as given. -/
def Pins.powered (pins : Pins) (straps : BitVec 4) : Pins :=
  { pins with level := { pins.level with mains := true }, straps := straps }

/-- POWER_APPLIED (07, R118): VDD applied in OFF begins the POWER path. -/
def onPowerApplied (straps : BitVec 4) (p : Part) : Part :=
  if p.sup.power = .off then Part.enterSettleCold { p with pins := p.pins.powered straps } else p

/-- POWER_APPLIED (R118). -/
def execPowerApplied (straps : BitVec 4) (s : State) : Host.Outcome State Fault Refusal :=
  s.runs (onPowerApplied straps)

/-- STANDBY_MAINS_RETURN (07, R131). A return that falls together with a backup collapse taken first finds the part in
OFF and applies VDD: the POWER path begins, as POWER_APPLIED begins it. That this command carries the return there is a
DESIGN CHOICE (log 37). -/
def onStandbyMainsReturn (straps : BitVec 4) (p : Part) : Part :=
  if p.sup.power = .standby then Part.leaveStandby { p with pins := p.pins.powered straps }
  else onPowerApplied straps p

/-- STANDBY_MAINS_RETURN (R131). -/
def execStandbyMainsReturn (straps : BitVec 4) (s : State) : Host.Outcome State Fault Refusal :=
  s.runs (onStandbyMainsReturn straps)

end Sys2Proof.Machine
end

