-- ==== Sys2Proof/Machine/Clock.lean ====
section
/-! DEFINITION. What the machine does with no command waiting (log 4): an event that one of the station's own timers
has made due is put in the queue; with none due, one millisecond passes. -/

namespace Sys2Proof.Machine

/-! ## Which events are due -/

/-- An event, if it is due. -/
def dueIf (b : Bool) (i : Instr) : List Instr := if b = true then [i] else []

/-- The bound of a start read in ms (08, R141). -/
def startReadLimit : Nat := 2

/-- The bound of a write and of an erase in ms (08, R136, R145). -/
def operationLimit : Nat := 12

/-- The journal's operation in flight completes at its bound (log 25). -/
def Part.journalDue (p : Part) : List Instr :=
  dueIf (p.jrn.startRead && decide (startReadLimit ≤ p.jrn.elapsed)) .startReadComplete ++
  (match p.jrn.operation with
    | some (.write _ _) =>
      dueIf (decide (operationLimit ≤ p.jrn.elapsed)) (.writeCompletion (Config.freeReadBack p.freeCount))
    | some (.erase _) => dueIf (decide (operationLimit ≤ p.jrn.elapsed)) .eraseCompletion
    | none => [])

/-- Line unit, roster and standing controller (01, R5, R6; 02, R29, R42; 03, R53, R62, R64). -/
def Part.groupDue (p : Part) : List Instr :=
  dueIf (decide p.mayStart && p.offered.isSome) .transmissionStart ++
  dueIf (decide (p.line.state = .idle ∧ p.line.courtesy = true ∧ 19 ≤ p.line.recessive)) .courtesyGapEnd ++
  dueIf p.roster.laneDue .laneSpacingExpiry ++
  (stations.filter fun i => decide (i ≠ p.station) && (p.roster.entry i).agedOut).map .entryAgedLost ++
  dueIf (decide (p.ctl.standing = .listening) && p.ctl.listen.isDue listenLimit) .listenTimerExpiry ++
  dueIf (decide (p.ctl.standing = .active ∨ p.ctl.standing = .isolated) && p.ctl.census.isDue censusLimit)
    .censusTimerExpiry ++
  dueIf (decide (p.ctl.standing = .active) && p.ctl.unheard.isDue standingLimit) .standingTimerExpiry

/-- The output gate's switching off, and the queue's aged timer (06, R109, R110, R114, R115; 10, R173). -/
def Part.gateDue (p : Part) : List Instr :=
  dueIf (p.gate.heat1.on && p.gate.heat1.turnOffPending && decide (heatMinOnLimit ≤ p.gate.heat1.minOn))
    (.heatMinOnReached .one) ++
  dueIf (p.gate.heat2.on && p.gate.heat2.turnOffPending && decide (heatMinOnLimit ≤ p.gate.heat2.minOn))
    (.heatMinOnReached .two) ++
  dueIf (decide (p.graceRuns ∧ graceLimit ≤ p.gate.grace)) .thermostatGraceExpiry ++
  dueIf (decide (p.gate.watch = .confirming) && p.gate.rotation.isDue rotationLimit) .noRotation ++
  dueIf (decide (p.gate.watch = .running) && p.gate.rotation.isDue rotationLimit) .rotationLost ++
  dueIf (p.ntc.aged.isDue agedLimit) .agedTimerExpiry

/-- The supply monitor (07, R119 to R123, R125). -/
def Part.supplyDue (p : Part) : List Instr :=
  match p.sup.power with
  | .settle => dueIf (p.sup.settle.isDue p.sup.settleLimit) .settleExpiry
  | .qualify =>
    dueIf (p.sup.qualification.isDue qualificationLimit) .endOfQualification ++
    dueIf (p.sup.absence.isDue absenceLimit) .qualifyDrop
  | .run => dueIf (p.sup.absence.isDue absenceLimit) .mainsDeclaredAbsent
  | .ride => dueIf (p.sup.ride.isDue rideLimit) .rideTimerExpiry
  | .off => []
  | .standby => []

/-- The cycle engine (04, R78, R80, R83, R92; 05, R95, R98, R99). -/
def Part.cycleDue (p : Part) : List Instr :=
  dueIf (decide (p.credited ∧ 1000 ≤ p.cyc.credit)) .creditSecond ++
  dueIf (decide (p.cyc.phase = .cool) && p.cyc.cool.isDue) .endOfCooling ++
  dueIf (decide (p.cyc.phase = .dry ∧ 0 < p.cyc.heatWant ∧ p.ownHeld = 0 ∧ p.cyc.starvationReported = false ∧
    starvationLimit ≤ p.cyc.starvation)) .heatStarved ++
  dueIf (p.cyc.checkpointTimer.isDue checkpointLimit) .checkpointTimerExpiry ++
  dueIf (decide (p.cyc.phase = .rest ∧ 0 < p.cyc.window.seconds) && p.cyc.rest.isDue) .restExpiry ++
  dueIf (decide (p.cyc.phase = .burst) && p.cyc.burst.isDue) .burstEnd ++
  dueIf (decide (p.cyc.phase = .rest ∨ p.cyc.phase = .burstWait ∨ p.cyc.phase = .burst) && p.cyc.window.lastOver)
    .windowExpiry

/-- The events that can switch an output on; they wait for every other due event (06, R116; log 1). -/
def Part.switchOnDue (p : Part) : List Instr :=
  dueIf (p.gate.heat1.minOff.isDue heatMinOffLimit) (.heatMinOffElapsed .one) ++
  dueIf (p.gate.heat2.minOff.isDue heatMinOffLimit) (.heatMinOffElapsed .two) ++
  dueIf (p.gate.motorMinOff.isDue motorMinOffLimit) .motorMinOffElapsed

/-- Every event due but those of `switchOnDue`. -/
def Part.firstDue (p : Part) : List Instr :=
  if p.works then
    p.supplyDue ++ p.journalDue ++ p.groupDue ++ p.gateDue ++ (if p.engineRuns then p.cycleDue else [])
  else []

/-- The events among which the next is taken. -/
def Part.due (p : Part) : List Instr :=
  if p.works ∧ p.firstDue = [] then p.switchOnDue else p.firstDue

/-! ## One millisecond -/

/-- One millisecond of a timer. -/
def Timer.tick : Timer → Timer
  | .running ms => .running (ms + 1)
  | .stopped => .stopped
  | .reached => .reached

/-- One millisecond of a counter of whole seconds; its last second ends in the event that takes it to 0. -/
def Countdown.tick (c : Countdown) : Countdown :=
  if c.seconds = 0 then c
  else if c.part + 1 < 1000 then ⟨c.seconds, c.part + 1⟩
  else if c.seconds = 1 then ⟨1, 1000⟩
  else ⟨c.seconds - 1, 0⟩

/-- The counter, counting only while its phase lasts. -/
def Countdown.tickIf (c : Countdown) (counts : Bool) : Countdown := if counts = true then c.tick else c

/-- One millisecond of the entries' measures; the own entry does not age (02, R33, R41). -/
def Roster.tick (r : Roster) (own : Station) : Roster where
  entries := Vector.ofFn fun i =>
    if i = own then r.entry i else { r.entry i with sinceHeard := min 255000 ((r.entry i).sinceHeard + 1) }
  lane := r.lane.map fun l => ⟨l.station, l.remaining - 1⟩

/-- One millisecond of the standing controller's timers. -/
def Controller.tick (c : Controller) : Controller :=
  { c with census := c.census.tick, listen := c.listen.tick, unheard := c.unheard.tick }

/-- One millisecond of a stage's timers (06, R106). -/
def StageGate.tick (g : StageGate) : StageGate :=
  { g with minOn := if g.on = true then min heatMinOnLimit (g.minOn + 1) else g.minOn, minOff := g.minOff.tick }

/-- One millisecond of the output gate's timers; what is energized is driven from now on (R116; log 1). -/
def Gate.tick (g : Gate) (graceRuns : Bool) : Gate :=
  { g with
    heat1 := g.heat1.tick
    heat2 := g.heat2.tick
    motorMinOff := g.motorMinOff.tick
    rotation := g.rotation.tick
    grace := if graceRuns = true then min graceLimit (g.grace + 1) else g.grace
    pastStart := true }

/-- One millisecond of the outage clock; it stops at 65 535 s (07, R129). -/
def Supply.tickOutage (u : Supply) : Supply :=
  if u.outageRunning = true then
    match u.outage with
    | none => u
    | some t =>
      if u.outagePart + 1 < 1000 then { u with outagePart := u.outagePart + 1 }
      else { u with outage := some (min 65535 (t + 1)), outagePart := 0 }
  else u

/-- One millisecond of the supply monitor's timers. -/
def Supply.tick (u : Supply) : Supply :=
  { u.tickOutage with
    absence := u.absence.tick, qualification := u.qualification.tick, settle := u.settle.tick, ride := u.ride.tick }

/-- One millisecond of the cycle engine's counters and timers (04, R78, R80, R83, R92; 05, R93). A credit fraction of
1000 ms is a credited second that waits for its CREDIT_SECOND (log 31). -/
def Part.tickCycle (p : Part) : Cycle :=
  let c := p.cyc
  let tumbling := decide (c.phase = .rest ∨ c.phase = .burstWait ∨ c.phase = .burst)
  { c with
    cool := c.cool.tickIf (decide (c.phase = .cool))
    window := c.window.tickIf tumbling
    rest := c.rest.tickIf (decide (c.phase = .rest))
    burst := c.burst.tickIf (decide (c.phase = .burst))
    credit := if p.credited then min 1000 (c.credit + 1) else c.credit
    starvation :=
      if c.phase = .dry ∧ 0 < c.heatWant ∧ p.ownHeld = 0 then min starvationLimit (c.starvation + 1) else c.starvation
    checkpointTimer := c.checkpointTimer.tick }

/-- One millisecond of an idle line: 20 recessive bit times, counted up to 19 (01, R1, R4). -/
def LineUnit.tick (l : LineUnit) : LineUnit :=
  if l.state = .idle ∧ 11 ≤ l.recessive then { l with recessive := 19 } else l

/-- One millisecond of the journal's operation or start read. -/
def Journal.tick (j : Journal) : Journal :=
  if j.operation.isSome = true ∨ j.startRead = true then { j with elapsed := j.elapsed + 1 } else j

/-- One millisecond passes. In STANDBY only the outage clock counts (07, R128); in OFF nothing does. -/
def Part.tick (p : Part) : Part :=
  if p.works then
    { p with
      line := p.line.tick
      roster := p.roster.tick p.station
      ctl := p.ctl.tick
      gate := p.gate.tick (decide p.graceRuns)
      sup := p.sup.tick
      jrn := p.jrn.tick
      ntc := { p.ntc with aged := p.ntc.aged.tick }
      cyc := if p.engineRuns then p.tickCycle else p.cyc }
  else if p.sup.power = .standby then { p with sup := p.sup.tickOutage }
  else p

/-- The machine with no command waiting: a due event joins the queue, the choice among several being free (log 5);
with none due, one millisecond passes (log 4). -/
def State.idle (s : State) : State :=
  match s.due with
  | [] => { s with toPart := s.tick }
  | [i] => { s with pending := [i], freeCount := s.freeCount + 1 }
  | i :: j :: rest =>
    { s with
      pending := [(i :: j :: rest).getD (Config.freeChoice s.freeCount % (rest.length + 2)) i]
      freeCount := s.freeCount + 1 }

end Sys2Proof.Machine
end

