-- ==== Sys2Proof/Machine/JournalEvents.lean ====
section
/-! DEFINITION. The meanings of the checkpoint journal's commands and of the notice queue's timer (08; 10, R173). -/

namespace Sys2Proof.Machine

/-- START_READ_COMPLETE (08, R141, R142; 10, R168); on STATION RESET the resume decision is made now, with the outage
unknown and the latch taken as clear (09, R146, R147). -/
def onStartReadComplete (p : Part) : Part :=
  if p.works ∧ p.jrn.startRead = true then
    let q := p.finishStartRead
    if q.res.path = .stationReset ∧ q.sup.power = .run then (q.resumeDecision none false).settle else q
  else p

/-- START_READ_COMPLETE (R141). -/
def execStartReadComplete (s : State) : Host.Outcome State Fault Refusal := s.runs onStartReadComplete

/-- R138: what a write leaves in its slot; one that does not read back is torn. -/
def writtenSlot (r : Record) (good : Bool) : Slot := if good = true then .record r else .torn

/-- R138: the slot reads back valid. -/
def Journal.writeValid (j : Journal) (n : SlotName) (r : Record) : Journal :=
  { (j.withSlot n (.record r)).withTorn n false with
    newest := some n
    newestSequence := some r.sequence
    retry := false }

/-- R138: the slot reads back torn; the first time, the write is asked for once more. -/
def Journal.writeTorn (j : Journal) (n : SlotName) (r : Record) (good : Bool) : Journal :=
  { (j.withSlot n (writtenSlot r good)).withTorn n true with
    retry := !j.retry
    pendingWrite := j.pendingWrite || !j.retry }

/-- R138: the outcome of the read-back. -/
def Part.readBack (p : Part) (n : SlotName) (r : Record) (good : Bool) : Part :=
  if (writtenSlot r good).validRecord p.station = some r then { p with jrn := p.jrn.writeValid n r }
  else
    let q := { p with jrn := p.jrn.writeTorn n r good }
    q.notifyOwn .tornSlot (some q.jrn.tornCount)

/-- R137: after the read-back the pending write begins, or the journal is IDLE and reports QUIET. -/
def Part.nextWrite (p : Part) : Part :=
  match p.jrn.pendingWrite, p.ctl.config with
  | true, some config => Part.beginWrite { p with jrn := { p.jrn with pendingWrite := false } } config
  | true, none =>
    Part.onQuiet { p with jrn := { p.jrn with pendingWrite := false, operation := none, elapsed := 0 } }
  | false, _ => Part.onQuiet { p with jrn := { p.jrn with operation := none, elapsed := 0 } }

/-- WRITE_COMPLETION (08, R137, R138): `good`, the slot holds what was written. -/
def onWriteCompletion (good : Bool) (p : Part) : Part :=
  if p.works then
    match p.jrn.operation with
    | some (.write n r) => (p.readBack n r good).nextWrite
    | some (.erase _) => p
    | none => p
  else p

/-- WRITE_COMPLETION (R137). -/
def execWriteCompletion (good : Bool) (s : State) : Host.Outcome State Fault Refusal :=
  s.runs (onWriteCompletion good)

/-- R145 and 10, R163: a CLEAR held for the erases is answered. -/
def Part.answerHeldClear (p : Part) : Part := if p.port.held = some .clear then p.answer .done [] else p

/-- ERASE_COMPLETION (08, R145). -/
def onEraseCompletion (p : Part) : Part :=
  if p.works then
    match p.jrn.operation with
    | some (.erase .a) =>
      { p with jrn := { p.jrn with
          slotA := .erased, operation := some (.erase .b), eraseQueued := false, elapsed := 0 } }
    | some (.erase .b) =>
      (Part.answerHeldClear { p with jrn := { p.jrn with
          slotB := .erased, operation := none, elapsed := 0 } }).onQuiet
    | some (.write _ _) => p
    | none => p
  else p

/-- ERASE_COMPLETION (R145). -/
def execEraseCompletion (s : State) : Host.Outcome State Fault Refusal := s.runs onEraseCompletion

/-- AGED_TIMER_EXPIRY (10, R173): the timer has reached 2 s; a TAKE NOTICE taken first has restarted or stopped it. -/
def onAgedTimerExpiry (p : Part) : Part :=
  if p.works ∧ p.ntc.aged.isDue agedLimit = true then
    { p with ntc := { p.ntc with attn := true, aged := .stopped } }
  else p

/-- AGED_TIMER_EXPIRY (R173). -/
def execAgedTimerExpiry (s : State) : Host.Outcome State Fault Refusal := s.runs onAgedTimerExpiry

end Sys2Proof.Machine
end

