-- ==== Sys2Proof/Machine/Port.lean ====
section
/-! DEFINITION. The meanings of the appliance port's exchanges (10; 01, R26). Each request is one exchange, from SEL's
assertion to its release (log 14); `Part.request` says when the port takes it, and `Instr.ofExchange`
(Sys2Proof/Decode.lean) which command an exchange's bytes are. -/

namespace Sys2Proof.Machine

/-! ## CONFIGURE, BEGIN, TRIM, CANCEL -/

/-- The configuration the five data bytes spell (01, Table 1-4). -/
def Configuration.ofBytes (budget spacing reheat limit trigger : Byte) : Configuration :=
  ⟨budget.toNat, spacing.toNat, reheat.toNat, limit.toNat, trigger.toNat⟩

/-- 10, R166: the effects of an accepted CONFIGURE. -/
def Part.accepted (p : Part) (c : Configuration) : Part :=
  ((((p.setConfig (some c)).changeStanding .listening).requestCheckpoint).answer .done []).settle

/-- 10, R166: CONFIGURE in EXECUTING. -/
def Part.runConfigure (c : Configuration) (p : Part) : Part :=
  if p.ctl.standing ≠ .unconfigured then p.answer .locked []
  else if p.res.decided = false then p.answer .state []
  else if ¬ c.inRange then p.answer .range []
  else p.accepted c

/-- CONFIGURE (10, R166). -/
def onConfigure (budget spacing reheat limit trigger : Byte) (p : Part) : Part :=
  p.request 6 (Part.runConfigure (Configuration.ofBytes budget spacing reheat limit trigger))

/-- CONFIGURE (R166). -/
def execConfigure (budget spacing reheat limit trigger : Byte) (s : State) : Host.Outcome State Fault Refusal :=
  s.runs (onConfigure budget spacing reheat limit trigger)

/-- The program the seven data bytes spell (01, Table 1-4). -/
def Program.ofBytes (dryTime stages coolTime : Byte) (window : BitVec 16) (burst rest : Byte) : Program :=
  ⟨dryTime.toNat, stages.toNat, coolTime.toNat, window.toNat, burst.toNat, rest.toNat⟩

/-- 04, R73: the conditions of BEGIN but the ranges. -/
abbrev Part.mayBegin (p : Part) : Prop :=
  p.sup.power = .run ∧ p.ctl.standing ≠ .unconfigured ∧ p.cyc.phase = .idle ∧ p.inp.level.door = false ∧
    p.inp.level.highLimit = false

/-- 04, R73: the cycle engine after an accepted BEGIN, but for its phase. -/
def Cycle.begun (c : Cycle) (g : Program) : Cycle :=
  { c with
    target := .dry
    program := some g
    remainingDry := g.dryTime * 60
    cool := ⟨0, 0⟩
    window := ⟨0, 0⟩
    rest := ⟨0, 0⟩
    burst := ⟨0, 0⟩
    resumed := false
    heatBarred := false
    highLimitSeen := false
    resumeCount := 0 }

/-- 04, R73: BEGIN in EXECUTING. -/
def Part.runBegin (g : Program) (p : Part) : Part :=
  if ¬ p.mayBegin then p.answer .state []
  else if ¬ g.inRange then p.answer .range []
  else ((Part.changePhase { p with cyc := p.cyc.begun g } .startWait).answer .done []).settle

/-- BEGIN (04, R73). -/
def onBeginCycle (dryTime stages coolTime : Byte) (window : BitVec 16) (burst rest : Byte) (p : Part) : Part :=
  p.request 8 (Part.runBegin (Program.ofBytes dryTime stages coolTime window burst rest))

/-- BEGIN (R73). -/
def execBeginCycle (dryTime stages coolTime : Byte) (window : BitVec 16) (burst rest : Byte) (s : State) :
    Host.Outcome State Fault Refusal :=
  s.runs (onBeginCycle dryTime stages coolTime window burst rest)

/-- 04, R81: remaining dry set anew; at 0 the end of drying is taken (R82). -/
def Part.trimmed (p : Part) (minutes : Nat) : Part :=
  let q := Part.requestCheckpoint { p with cyc := { p.cyc with remainingDry := minutes * 60, credit := 0 } }
  if minutes = 0 then q.endDrying else q

/-- 04, R81: TRIM in EXECUTING. -/
def Part.runTrim (minutes : Byte) (p : Part) : Part :=
  if ¬ (p.sup.power = .run ∧ p.cyc.phase = .dry) then p.answer .state []
  else if 240 < minutes.toNat then p.answer .range []
  else ((p.trimmed minutes.toNat).answer .done []).settle

/-- TRIM (04, R81). -/
def onTrim (minutes : Byte) (p : Part) : Part := p.request 2 (Part.runTrim minutes)

/-- TRIM (R81). -/
def execTrim (minutes : Byte) (s : State) : Host.Outcome State Fault Refusal := s.runs (onTrim minutes)

/-- 04, R89: CANCEL in EXECUTING. -/
def Part.runCancel (p : Part) : Part :=
  if p.sup.power = .run ∧ p.cyc.phase ≠ .idle then
    ((p.endCycle (if p.cyc.phase = .halted then .faulted else .cancelled)).answer .done []).settle
  else p.answer .state []

/-- CANCEL (04, R89). -/
def onCancel (p : Part) : Part := p.request 1 Part.runCancel

/-- CANCEL (R89). -/
def execCancel (s : State) : Host.Outcome State Fault Refusal := s.runs onCancel

/-! ## CLEAR and STATION RESET -/

/-- 08, R144: the conditions of CLEAR. -/
abbrev Part.mayClear (p : Part) : Prop :=
  p.sup.power = .run ∧ p.res.decided = true ∧ p.ctl.standing ≠ .barred ∧ p.ctl.standing ≠ .dark ∧
    p.cyc.phase = .idle ∧ p.jrn.operation = none ∧ p.jrn.pendingWrite = false

/-- 08, R144: the journal at an accepted CLEAR. -/
def Journal.cleared (j : Journal) : Journal :=
  { j with
    operation := some (.erase .a)
    elapsed := 0
    eraseQueued := true
    newest := none
    newestSequence := none
    tornA := false
    tornB := false }

/-- 08, R144: the effects of an accepted CLEAR; the request is held until the erases end (10, R163). -/
def Part.cleared (p : Part) : Part :=
  let q := p.setConfig none
  let r := if q.ctl.standing = .unconfigured then q else q.changeStanding .unconfigured
  Part.settle
    (Part.holdRequest
      { r with
        cyc := { r.cyc with program := none, outcome := .none }
        jrn := r.jrn.cleared }
      .clear)

/-- 08, R144: CLEAR in EXECUTING. -/
def Part.runClear (p : Part) : Part := if p.mayClear then p.cleared else p.answer .state []

/-- CLEAR (08, R144). -/
def onClear (p : Part) : Part := p.request 1 Part.runClear

/-- CLEAR (R144). -/
def execClear (s : State) : Host.Outcome State Fault Refusal := s.runs onClear

/-- 10, R169: the conditions of STATION RESET. -/
abbrev Part.mayReset (p : Part) : Prop :=
  p.sup.power = .run ∧ p.res.decided = true ∧ p.cyc.phase = .idle

/-- 10, R169: STATION RESET in EXECUTING: executed when the journal is quiet, held until then. -/
def Part.runStationReset (p : Part) : Part :=
  if ¬ p.mayReset then p.answer .state []
  else if p.jrn.quiet then p.executeStationReset
  else p.holdRequest .stationReset

/-- STATION_RESET (10, R169), with the levels of the straps at the request (log 27). -/
def onStationReset (straps : BitVec 4) (p : Part) : Part :=
  p.request 1 fun q => Part.runStationReset { q with pins := { q.pins with straps := straps } }

/-- STATION_RESET (R169). -/
def execStationReset (straps : BitVec 4) (s : State) : Host.Outcome State Fault Refusal :=
  s.runs (onStationReset straps)

/-! ## READ STANDING, READ ROSTER, READ CHECKPOINT -/

/-- 09, R148: last outage as it is returned. -/
def Outage.shown : Outage → Nat
  | .none => 0
  | .unknown => 65535
  | .seconds t => t

/-- The 24 data bytes of READ STANDING (01, Table 1-5). -/
def Part.standingBytes (p : Part) : List Byte :=
  [byte p.ctl.standing.code, byte p.sup.power.code, byte p.cyc.phase.code, byte p.cyc.target.code, byte p.ownHeld,
    byte p.cyc.heatWant, byte (p.cyc.laneWant.getD 255), byte p.ctl.waitAge] ++
  twoBytes p.cyc.remainingDry ++ twoBytes p.cyc.cool.seconds ++ twoBytes p.cyc.window.seconds ++
  twoBytes p.cyc.rest.seconds ++ [byte p.cyc.burst.seconds] ++ twoBytes p.res.lastOutage.shown ++
  [byte (outageClassCode p.res.lastClass), byte p.line.score, byte p.cyc.outcome.code, byte p.inp.level.code,
    byte p.inp.delta.code]

/-- 10, R167: READ STANDING in EXECUTING; every delta flag is cleared. -/
def Part.runReadStanding (p : Part) : Part :=
  Part.answer { p with inp := { p.inp with delta := ⟨false, false, false, false⟩ } } .done p.standingBytes

/-- READ_STANDING (10, R167). -/
def onReadStanding (p : Part) : Part := p.request 1 Part.runReadStanding

/-- READ_STANDING (R167). -/
def execReadStanding (s : State) : Host.Outcome State Fault Refusal := s.runs onReadStanding

/-- The last-heard age in whole seconds, at most 255 (02, R41). -/
def Entry.age (e : Entry) : Nat := min 255 (e.sinceHeard / 1000)

/-- The six bytes of one entry (01, Table 1-5; R27). -/
def Entry.bytes (e : Entry) : List Byte :=
  [byte e.presence.code, byte ((e.declaredStanding.map (·.code)).getD 255), byte e.held,
    byte (e.declaredBudget.getD 0), byte ((e.phaseClass.map (·.code)).getD 255), byte e.age]

/-- The lane record's bytes; with no holder the spacing is sent as 0 (log 12). -/
def laneBytes : Option LaneHolder → List Byte
  | none => byte 0 :: twoBytes 0
  | some l => byte (stationNumber l.station) :: twoBytes l.remaining

/-- The 101 data bytes of READ ROSTER (01, Table 1-5). -/
def Part.rosterBytes (p : Part) : List Byte :=
  (stations.map fun i => (p.roster.entry i).bytes).flatten ++ laneBytes p.roster.lane ++
  [byte p.roster.heldTotal, byte ((p.roster.effectiveBudget p.ownBudget).getD 0)]

/-- 10, R167: READ ROSTER in EXECUTING; it changes nothing. -/
def Part.runReadRoster (p : Part) : Part := p.answer .done p.rosterBytes

/-- READ_ROSTER (10, R167). -/
def onReadRoster (p : Part) : Part := p.request 1 Part.runReadRoster

/-- READ_ROSTER (R167). -/
def execReadRoster (s : State) : Host.Outcome State Fault Refusal := s.runs onReadRoster

/-- 10, R168: READ CHECKPOINT in EXECUTING; held during the start read. -/
def Part.runReadCheckpoint (p : Part) : Part :=
  if p.jrn.startRead = true then p.holdRequest .readCheckpoint else p.answerCheckpoint

/-- READ_CHECKPOINT (10, R168). -/
def onReadCheckpoint (p : Part) : Part := p.request 1 Part.runReadCheckpoint

/-- READ_CHECKPOINT (R168). -/
def execReadCheckpoint (s : State) : Host.Outcome State Fault Refusal := s.runs onReadCheckpoint

/-! ## TAKE NOTICE -/

/-- The eight data bytes of TAKE NOTICE for a notice (01, R26 and Table 1-5). -/
def Notice.bytes (n : Notice) (overflow : Bool) : List Byte :=
  [byte 1, byte overflow.toNat, byte n.kind.code, byte (stationNumber n.station), byte n.phase.code,
    byte n.value.isSome.toNat] ++ twoBytes (n.value.getD 0)

/-- The eight data bytes of TAKE NOTICE on an empty queue (01, R26). -/
def noNoticeBytes (overflow : Bool) : List Byte := [byte 0, byte overflow.toNat] ++ zeroBytes 6

/-- R171 to R173: what a TAKE NOTICE leaves in the queue. -/
def NoticeQueue.taken (q : NoticeQueue) : NoticeQueue :=
  match q.queue with
  | [] => { q with overflow := false }
  | [_] => { q with queue := [], overflow := false, attn := false, aged := .stopped }
  | _ :: n :: rest => { q with queue := n :: rest, aged := .running 0 }

/-- What a TAKE NOTICE returns (R171). -/
def NoticeQueue.takeBytes (q : NoticeQueue) : List Byte :=
  match q.queue with
  | [] => noNoticeBytes q.overflow
  | n :: _ => n.bytes q.overflow

/-- 10, R171: TAKE NOTICE in EXECUTING. -/
def Part.runTakeNotice (p : Part) : Part := Part.answer { p with ntc := p.ntc.taken } .done p.ntc.takeBytes

/-- TAKE_NOTICE (10, R171). -/
def onTakeNotice (p : Part) : Part := p.request 1 Part.runTakeNotice

/-- TAKE_NOTICE (R171). -/
def execTakeNotice (s : State) : Host.Outcome State Fault Refusal := s.runs onTakeNotice

/-! ## Other exchanges -/

/-- 10, R163: an unknown command byte; the request is never EXECUTING. -/
def Part.runUnknown (p : Part) : Part := p.answer .unknown []

/-- UNKNOWN_COMMAND (10, R163). -/
def onUnknownCommand (command : Byte) (p : Part) : Part :=
  if (Instr.unknownCommand command).wellFormed = true then p.exchange 1 Part.runUnknown else p

/-- UNKNOWN_COMMAND (R163). -/
def execUnknownCommand (command : Byte) (s : State) : Host.Outcome State Fault Refusal :=
  s.runs (onUnknownCommand command)

/-- 10, R163: an incomplete request is discarded. -/
def Part.runIncomplete (p : Part) : Part := { p with port := { p.port with state := .idle } }

/-- INCOMPLETE_REQUEST (10, R163). -/
def onIncompleteRequest (command : Byte) (counted : Nat) (p : Part) : Part :=
  if (Instr.incompleteRequest command counted).wellFormed = true then p.exchange (1 + counted) Part.runIncomplete else p

/-- INCOMPLETE_REQUEST (R163). -/
def execIncompleteRequest (command : Byte) (counted : Nat) (s : State) : Host.Outcome State Fault Refusal :=
  s.runs (onIncompleteRequest command counted)

/-- REQUEST_WHILE_BUSY (10, R165): only in EXECUTING. -/
def onRequestWhileBusy (bytes : Nat) (p : Part) : Part :=
  if (Instr.requestWhileBusy bytes).wellFormed = true ∧ p.port.state = .executing then p.exchange bytes id else p

/-- REQUEST_WHILE_BUSY (R165). -/
def execRequestWhileBusy (bytes : Nat) (s : State) : Host.Outcome State Fault Refusal :=
  s.runs (onRequestWhileBusy bytes)

/-- `n` bytes shifted out, 00h after the last of `reply` (10, R164). -/
def shiftedOut (reply : List Byte) (n : Nat) : List Byte := reply.take n ++ zeroBytes (n - reply.length)

/-- REPLY_FETCH (10, R164): `bytes` whole bytes clocked after the fetch byte; the reply is gone once its result code
has been shifted out whole. -/
def onReplyFetch (bytes : Nat) (p : Part) : Part :=
  if p.works then
    match p.port.state with
    | .replyReady =>
      if 1 ≤ bytes then { p with port := ⟨.idle, none, [], shiftedOut p.port.reply bytes⟩ }
      else { p with port := { p.port with sdo := [] } }
    | .executing => { p with port := { p.port with sdo := shiftedOut [ResultCode.busy.byte] bytes } }
    | .idle => { p with port := { p.port with sdo := shiftedOut [ResultCode.state.byte] bytes } }
    | .receiving => p
  else p

/-- REPLY_FETCH (R164). -/
def execReplyFetch (bytes : Nat) (s : State) : Host.Outcome State Fault Refusal := s.runs (onReplyFetch bytes)

end Sys2Proof.Machine
end

