-- ==== Sys2Proof/Machine/Dispatch.lean ====
section
/-! DEFINITION. The meaning of every command, arm by arm. -/

namespace Sys2Proof.Machine

/-- The effect of a command on everything but the queue. -/
def exec (i : Instr) (s : State) : Host.Outcome State Fault Refusal :=
  match i with
    | .transmissionStart => Sys2Proof.Machine.execTransmissionStart s
    | .startMarkRecognised inSlot => Sys2Proof.Machine.execStartMarkRecognised inSlot s
    | .arbitrationLost => Sys2Proof.Machine.execArbitrationLost s
    | .payloadLoss startMark => Sys2Proof.Machine.execPayloadLoss startMark s
    | .interference startMark => Sys2Proof.Machine.execInterference startMark s
    | .invalidKindAbandon kind => Sys2Proof.Machine.execInvalidKindAbandon kind s
    | .closingSpacerEnd bits => Sys2Proof.Machine.execClosingSpacerEnd bits s
    | .verdictSlotEnd first second => Sys2Proof.Machine.execVerdictSlotEnd first second s
    | .lineIdle => Sys2Proof.Machine.execLineIdle s
    | .courtesyGapEnd => Sys2Proof.Machine.execCourtesyGapEnd s
    | .lineStuck => Sys2Proof.Machine.execLineStuck s
    | .stuckCleared => Sys2Proof.Machine.execStuckCleared s
    | .laneSpacingExpiry => Sys2Proof.Machine.execLaneSpacingExpiry s
    | .entryAgedLost station => Sys2Proof.Machine.execEntryAgedLost station s
    | .listenTimerExpiry => Sys2Proof.Machine.execListenTimerExpiry s
    | .censusTimerExpiry => Sys2Proof.Machine.execCensusTimerExpiry s
    | .standingTimerExpiry => Sys2Proof.Machine.execStandingTimerExpiry s
    | .configure budget spacing reheat limit trigger => Sys2Proof.Machine.execConfigure budget spacing reheat limit trigger s
    | .beginCycle dryTime stages coolTime window burst rest => Sys2Proof.Machine.execBeginCycle dryTime stages coolTime window burst rest s
    | .trim minutes => Sys2Proof.Machine.execTrim minutes s
    | .cancel => Sys2Proof.Machine.execCancel s
    | .clear => Sys2Proof.Machine.execClear s
    | .stationReset straps => Sys2Proof.Machine.execStationReset straps s
    | .readStanding => Sys2Proof.Machine.execReadStanding s
    | .readRoster => Sys2Proof.Machine.execReadRoster s
    | .readCheckpoint => Sys2Proof.Machine.execReadCheckpoint s
    | .takeNotice => Sys2Proof.Machine.execTakeNotice s
    | .unknownCommand command => Sys2Proof.Machine.execUnknownCommand command s
    | .incompleteRequest command counted => Sys2Proof.Machine.execIncompleteRequest command counted s
    | .requestWhileBusy bytes => Sys2Proof.Machine.execRequestWhileBusy bytes s
    | .replyFetch bytes => Sys2Proof.Machine.execReplyFetch bytes s
    | .creditSecond => Sys2Proof.Machine.execCreditSecond s
    | .endOfCooling => Sys2Proof.Machine.execEndOfCooling s
    | .heatStarved => Sys2Proof.Machine.execHeatStarved s
    | .checkpointTimerExpiry => Sys2Proof.Machine.execCheckpointTimerExpiry s
    | .restExpiry => Sys2Proof.Machine.execRestExpiry s
    | .burstEnd => Sys2Proof.Machine.execBurstEnd s
    | .windowExpiry => Sys2Proof.Machine.execWindowExpiry s
    | .inputChange input active => Sys2Proof.Machine.execInputChange input active s
    | .heatMinOffElapsed stage => Sys2Proof.Machine.execHeatMinOffElapsed stage s
    | .heatMinOnReached stage => Sys2Proof.Machine.execHeatMinOnReached stage s
    | .thermostatGraceExpiry => Sys2Proof.Machine.execThermostatGraceExpiry s
    | .motorMinOffElapsed => Sys2Proof.Machine.execMotorMinOffElapsed s
    | .tachPulse => Sys2Proof.Machine.execTachPulse s
    | .noRotation => Sys2Proof.Machine.execNoRotation s
    | .rotationLost => Sys2Proof.Machine.execRotationLost s
    | .mainsDeclaredAbsent => Sys2Proof.Machine.execMainsDeclaredAbsent s
    | .qualifyDrop => Sys2Proof.Machine.execQualifyDrop s
    | .settleExpiry => Sys2Proof.Machine.execSettleExpiry s
    | .endOfQualification => Sys2Proof.Machine.execEndOfQualification s
    | .rideTimerExpiry => Sys2Proof.Machine.execRideTimerExpiry s
    | .backupCollapse low => Sys2Proof.Machine.execBackupCollapse low s
    | .powerApplied straps => Sys2Proof.Machine.execPowerApplied straps s
    | .standbyMainsReturn straps => Sys2Proof.Machine.execStandbyMainsReturn straps s
    | .doorLatchSet => Sys2Proof.Machine.execDoorLatchSet s
    | .startReadComplete => Sys2Proof.Machine.execStartReadComplete s
    | .writeCompletion good => Sys2Proof.Machine.execWriteCompletion good s
    | .eraseCompletion => Sys2Proof.Machine.execEraseCompletion s
    | .agedTimerExpiry => Sys2Proof.Machine.execAgedTimerExpiry s
    | .lineGoesDominant recessive => Sys2Proof.Machine.execLineGoesDominant recessive s
    | .arbitrationWon => Sys2Proof.Machine.execArbitrationWon s

end Sys2Proof.Machine
end

