-- ==== Sys2Proof/Safety.lean ====
section
/-! DEFINITION. What it means for a state to be safe and whole: the predicates the statements about every step use. -/

namespace Sys2Proof.Machine

/-- The derived state is what the rules give for the rest of the state: nothing is left to work out. Every event ends
so, and reset begins so. -/
abbrev Part.Settled (p : Part) : Prop := p.settle = p

/-- The port has taken a request exchange of `clocked` whole bytes (10, R163): EXECUTING, an earlier reply discarded,
00h shifted out. -/
abbrev Part.taking (p : Part) (clocked : Nat) : Part :=
  { p with port := ⟨.executing, none, [], zeroBytes clocked⟩ }

/-- 06, R107; 03, R59: HEATn is energized only while n is at most the permit, MOTOR turns with rotation confirmed, the
door is closed, HIGH LIMIT is inactive and the supply monitor is in RUN; and no more stages are energized than are
held. -/
abbrev Part.HeatSafe (p : Part) : Prop :=
  (p.gate.heat1.on = true → p.stageMayStay 1) ∧ (p.gate.heat2.on = true → p.stageMayStay 2) ∧
    p.gate.energized ≤ p.ownHeld

/-- 06, R112, R113: MOTOR is energized only while it is wanted, with the door closed, in RUN. -/
abbrev Part.MotorSafe (p : Part) : Prop := p.gate.motor = true → p.motorMayRun

/-- 03, R50, R63: a kind is in the pending-send set only while the standing permits it. -/
abbrev Part.SendPermitted (p : Part) : Prop :=
  (p.ctl.send.dark = true → p.ctl.standing.permits .dark = true) ∧
    (p.ctl.send.drop = true → p.ctl.standing.permits .drop = true) ∧
    (p.ctl.send.hold = true → p.ctl.standing.permits .hold = true) ∧
    (p.ctl.send.take = true → p.ctl.standing.permits .take = true) ∧
    (p.ctl.send.lane = true → p.ctl.standing.permits .lane = true)

/-- 10, R171 to R173: at most eight notices; ATTN is low, and the aged timer stopped, while the queue is empty. -/
abbrev NoticeQueue.Ok (q : NoticeQueue) : Prop :=
  q.queue.length ≤ queueLimit ∧ (q.queue = [] → q.attn = false ∧ q.aged.isRunning = false)

/-- 01, R22; 03, R67, R70: the counters that saturate stay in range. -/
abbrev Part.CountersOk (p : Part) : Prop := p.line.score ≤ 255 ∧ p.ctl.waitAge ≤ 15 ∧ p.ctl.takeVoids ≤ 4

/-- 08, R135: the newest slot holds a valid record of this station with the newest sequence. -/
abbrev Part.NewestValid (p : Part) : Prop :=
  match p.jrn.newest with
  | none => True
  | some n =>
    match (p.jrn.slot n).validRecord p.station with
    | none => False
    | some r => p.jrn.newestSequence = some r.sequence

/-- 08, R135, R144: no write is directed to the newest slot, and no erase is in flight while there is a newest slot. -/
abbrev Journal.NewestSpared (j : Journal) : Prop :=
  match j.operation with
  | none => True
  | some (.write n _) => j.newest ≠ some n
  | some (.erase _) => j.newest = none

/-- The journal's invariant (08, R135, R141): besides, during the start read nothing is known of the slots, nothing is
in flight and no decision has supplied a configuration. -/
abbrev Part.JournalOk (p : Part) : Prop :=
  p.NewestValid ∧ p.jrn.NewestSpared ∧
    (p.jrn.startRead = true →
      p.jrn.newest = none ∧ p.jrn.operation = none ∧ p.res.decided = false ∧ p.ctl.config = none)

/-- 02, R27: every entry holds at most two stages. -/
abbrev Part.HeldInRange (p : Part) : Prop := ∀ i : Station, (p.roster.entry i).held ≤ 2

/-- 04, R71, R72: the program is in range, and no want exceeds what a frame can carry. -/
abbrev Part.WantsInRange (p : Part) : Prop :=
  (∀ g ∈ p.cyc.program, g.inRange) ∧ p.cyc.heatWant ≤ 2 ∧ (∀ u ∈ p.cyc.laneWant, u ≤ 2)

/-- 01, R19: the frames in hand that are to be applied break no FORM rule. -/
abbrev LineUnit.FramesOk (l : LineUnit) : Prop :=
  (∀ f ∈ l.sent, f.frame.formOk = true) ∧ (∀ r ∈ l.received, r.error = false → r.frame.formOk = true)

/-- What keeps every claim of the station within the formats of 01: the ranges of everything a frame is composed
from. -/
abbrev Part.ClaimsOk (p : Part) : Prop :=
  p.Settled ∧ p.JournalOk ∧ p.HeldInRange ∧ p.WantsInRange ∧ p.line.FramesOk

end Sys2Proof.Machine
end

