-- ==== Sys2Proof/Certificates/Slice0/Obligations.lean ====
section
/-! DEFINITION. The statements for the provers. `onX` of the model is not used: every effect is written out from the
rules, over the shared operations (a notice queued, a checkpoint requested, a phase changed), each of which has a
statement of its own. `Part.settle` works out the derived state, which has statements of its own too. -/

open Sys2Proof Sys2Proof.Machine

/-! ## The step -/

/-- A step takes the command at the front of the queue and runs it on the rest. -/
def Obligations.StepRunsTheFrontCommand : Prop :=
  ∀ (c : Instr) (s : State), step { s with pending := c :: s.pending } = exec c s

/-- With no command waiting: a due event joins the queue, or else one millisecond passes (log 4, log 5). Each expiry is
due exactly when its timer stands at its limit (R29, R42, R53, R62, R64, R78, R80, R83, R92, R95, R98, R99, R107, R109,
R110, R112 to R115, R119 to R123, R125, R173), a start when R5 lets it begin. Those that can switch an output on wait for
the others (log 1), and a journal operation ends at its bound (log 25). No other command is ever due. -/
def Obligations.StepOfAnEmptyQueue : Prop :=
  (∀ s : State, s.pending = [] →
    (s.due = [] → step s = .next { s with toPart := s.tick }) ∧
    (s.due ≠ [] → ∃ i ∈ s.due, step s = .next { s with pending := [i], freeCount := s.freeCount + 1 })) ∧
  ∀ p : Part,
    let expired := fun (t : Timer) (limit : Nat) => ∃ n, t = .running n ∧ limit ≤ n
    let isOver := fun c : Countdown => c.seconds = 0 ∨ (c.seconds = 1 ∧ 1000 ≤ c.part)
    let lastOver := fun c : Countdown => c.seconds = 1 ∧ 1000 ≤ c.part
    let run := p.sup.power = .run
    let dry := run ∧ p.cyc.phase = .dry
    let outputs := [Instr.heatMinOffElapsed .one, .heatMinOffElapsed .two, .motorMinOffElapsed]
    (¬ p.works → p.due = []) ∧
    (p.works →
      (.laneSpacingExpiry ∈ p.due ↔ ∃ l, p.roster.lane = some l ∧ l.remaining = 0) ∧
      (∀ i, .entryAgedLost i ∈ p.due ↔
        i ≠ p.station ∧ (p.roster.entry i).presence = .present ∧ 6000 ≤ (p.roster.entry i).sinceHeard) ∧
      (.listenTimerExpiry ∈ p.due ↔ p.ctl.standing = .listening ∧ expired p.ctl.listen 4000) ∧
      (.censusTimerExpiry ∈ p.due ↔
        (p.ctl.standing = .active ∨ p.ctl.standing = .isolated) ∧ expired p.ctl.census 2000) ∧
      (.standingTimerExpiry ∈ p.due ↔ p.ctl.standing = .active ∧ expired p.ctl.unheard 4000) ∧
      (.transmissionStart ∈ p.due ↔ p.line.state = .idle ∧ 11 ≤ p.line.recessive ∧ p.line.courtesy = false ∧
        p.offered ≠ none) ∧
      (.courtesyGapEnd ∈ p.due ↔ p.line.state = .idle ∧ p.line.courtesy = true ∧ 19 ≤ p.line.recessive) ∧
      (.heatMinOnReached .one ∈ p.due ↔
        p.gate.heat1.on = true ∧ p.gate.heat1.turnOffPending = true ∧ 10000 ≤ p.gate.heat1.minOn) ∧
      (.heatMinOnReached .two ∈ p.due ↔
        p.gate.heat2.on = true ∧ p.gate.heat2.turnOffPending = true ∧ 10000 ≤ p.gate.heat2.minOn) ∧
      (.thermostatGraceExpiry ∈ p.due ↔ p.inp.level.exhaustHot = true ∧ p.cyc.phase = .dry ∧ 1 ≤ p.ownHeld ∧
        p.gate.report = false ∧ 30000 ≤ p.gate.grace) ∧
      (.noRotation ∈ p.due ↔ p.gate.watch = .confirming ∧ expired p.gate.rotation 3000) ∧
      (.rotationLost ∈ p.due ↔ p.gate.watch = .running ∧ expired p.gate.rotation 3000) ∧
      (.agedTimerExpiry ∈ p.due ↔ expired p.ntc.aged 2000) ∧
      (.settleExpiry ∈ p.due ↔
        p.sup.power = .settle ∧ expired p.sup.settle (if p.sup.warm = true then 64 else 500)) ∧
      (.endOfQualification ∈ p.due ↔ p.sup.power = .qualify ∧ expired p.sup.qualification 2000) ∧
      (.qualifyDrop ∈ p.due ↔ p.sup.power = .qualify ∧ expired p.sup.absence 40) ∧
      (.mainsDeclaredAbsent ∈ p.due ↔ run ∧ expired p.sup.absence 40) ∧
      (.rideTimerExpiry ∈ p.due ↔ p.sup.power = .ride ∧ expired p.sup.ride 200) ∧
      (.creditSecond ∈ p.due ↔ dry ∧ (p.gate.motor = true ∧ p.gate.watch = .running) ∧ 1 ≤ p.ctl.permit ∧
        1000 ≤ p.cyc.credit) ∧
      (.heatStarved ∈ p.due ↔ dry ∧ 0 < p.cyc.heatWant ∧ p.ownHeld = 0 ∧ p.cyc.starvationReported = false ∧
        1800000 ≤ p.cyc.starvation) ∧
      (.checkpointTimerExpiry ∈ p.due ↔ run ∧ expired p.cyc.checkpointTimer 60000) ∧
      (.endOfCooling ∈ p.due ↔ run ∧ p.cyc.phase = .cool ∧ isOver p.cyc.cool) ∧
      (.restExpiry ∈ p.due ↔ run ∧ p.cyc.phase = .rest ∧ 0 < p.cyc.window.seconds ∧ isOver p.cyc.rest) ∧
      (.burstEnd ∈ p.due ↔ run ∧ p.cyc.phase = .burst ∧ isOver p.cyc.burst) ∧
      (.windowExpiry ∈ p.due ↔ run ∧ (p.cyc.phase = .rest ∨ p.cyc.phase = .burstWait ∨ p.cyc.phase = .burst) ∧
        lastOver p.cyc.window) ∧
      (.startReadComplete ∈ p.due ↔ p.jrn.startRead = true ∧ 2 ≤ p.jrn.elapsed) ∧
      (.eraseCompletion ∈ p.due ↔ (∃ n, p.jrn.operation = some (.erase n)) ∧ 12 ≤ p.jrn.elapsed) ∧
      ((∃ good, .writeCompletion good ∈ p.due) ↔
        (∃ n r, p.jrn.operation = some (.write n r)) ∧ 12 ≤ p.jrn.elapsed) ∧
      (.heatMinOffElapsed .one ∈ p.due ↔ expired p.gate.heat1.minOff 10000 ∧ ∀ i ∈ p.due, i ∈ outputs) ∧
      (.heatMinOffElapsed .two ∈ p.due ↔ expired p.gate.heat2.minOff 10000 ∧ ∀ i ∈ p.due, i ∈ outputs) ∧
      (.motorMinOffElapsed ∈ p.due ↔ expired p.gate.motorMinOff 5000 ∧ ∀ i ∈ p.due, i ∈ outputs) ∧
      ∀ i ∈ p.due, i ∈ outputs ∨ (∃ j, i = .entryAgedLost j) ∨ (∃ good, i = .writeCompletion good) ∨
        i ∈ [Instr.laneSpacingExpiry, .listenTimerExpiry, .censusTimerExpiry, .standingTimerExpiry,
          .transmissionStart, .courtesyGapEnd, .heatMinOnReached .one, .heatMinOnReached .two,
          .thermostatGraceExpiry, .noRotation, .rotationLost, .agedTimerExpiry] ∨
        i ∈ [Instr.settleExpiry, .endOfQualification, .qualifyDrop, .mainsDeclaredAbsent, .rideTimerExpiry,
          .creditSecond, .heatStarved, .checkpointTimerExpiry, .endOfCooling, .restExpiry, .burstEnd, .windowExpiry,
          .startReadComplete, .eraseCompletion])

/-- Every command answers a next state and leaves the queue alone. -/
def Obligations.ExecNeverStops : Prop :=
  ∀ (i : Instr) (s : State), ∃ q : Part, exec i s = .next { s with toPart := q }

/-- A command whose operands describe no event leaves everything as it is (log 2). -/
def Obligations.IllFormedCommandsDoNothing : Prop :=
  ∀ (i : Instr) (s : State), i.wellFormed = false → exec i s = .next s

/-! ## The group line (01) -/

/-- R5, R62: a start composes the offered frame, drives its start mark and arms the standing timer in ACTIVE; with no
kind on offer nothing is driven. R3, R20, R25: the bits a sender drives: 7 dominant and 1 recessive, the frame with its
spacers, and a recessive verdict slot. -/
def Obligations.TransmissionStart : Prop :=
  ∀ s : State, s.works → s.line.state = .idle → 11 ≤ s.line.recessive → s.line.courtesy = false →
    (∀ k, s.offered = some k → exec .transmissionStart s = .next { s with
      line := { s.line with
        state := .arbitrating
        role := .sender
        sent := some ⟨s.compose k, checkOf (s.compose k).coveredBits⟩
        received := none
        recessive := 0 }
      ctl := { s.ctl with unheard :=
        if s.ctl.standing = .active ∧ s.ctl.unheard = .stopped then .running 0 else s.ctl.unheard } }) ∧
    (s.offered = none → exec .transmissionStart s = .next s) ∧
    ∀ f : SentFrame, f.lineBits =
      [false, false, false, false, false, false, false, true] ++
        withSpacers (f.frame.coveredBits ++ bitsOf 16 f.check.toNat) ++ [true, true]

/-- R4, R5: an edge on the idle line restarts the count; with at most one bit time of the wait left the station takes
it as its own start, otherwise, or with no kind on offer, it drives nothing. -/
def Obligations.EdgeOnIdleLine : Prop :=
  ∀ (s : State) (r : Nat), s.works → s.line.state = .idle →
    let left := (if s.line.courtesy = true then 19 else 11) - max r s.line.recessive
    (∀ k, left ≤ 1 → s.offered = some k → exec (.lineGoesDominant r) s = .next { s with
      line := { s.line with
        state := .arbitrating
        role := .sender
        sent := some ⟨s.compose k, checkOf (s.compose k).coveredBits⟩
        received := none
        recessive := 0 }
      ctl := { s.ctl with unheard :=
        if s.ctl.standing = .active ∧ s.ctl.unheard = .stopped then .running 0 else s.ctl.unheard } }) ∧
    (1 < left ∨ s.offered = none →
      exec (.lineGoesDominant r) s = .next { s with line := { s.line with recessive := 0 } })

/-- R63: the kind offered is the lowest of the set, HOLD being held back in ISOLATED until the heat is off. -/
def Obligations.OfferedKind : Prop :=
  ∀ p : Part,
    (p.ctl.send.dark = true → p.offered = some .dark) ∧
    (p.ctl.send.dark = false → p.ctl.send.drop = true → p.offered = some .drop) ∧
    (p.ctl.send.dark = false → p.ctl.send.drop = false → p.ctl.send.hold = true →
      (p.ctl.standing ≠ .isolated ∨ (p.gate.heat1.on = false ∧ p.gate.heat2.on = false)) → p.offered = some .hold) ∧
    (p.ctl.send = SendSet.empty → p.offered = none) ∧
    (p.ctl.standing = .isolated → p.ctl.send = ⟨false, false, true, false, false⟩ →
      (p.gate.heat1.on = true ∨ p.gate.heat2.on = true) → p.offered = none) ∧
    (p.ctl.send = ⟨false, false, false, true, p.ctl.send.lane⟩ → p.offered = some .take) ∧
    (p.ctl.send = ⟨false, false, false, false, true⟩ → p.offered = some .lane)

/-- R7, R64 to R69: the fields of the frame composed, kind by kind, and the phase class of Table 3-2 with its code
(R13). -/
def Obligations.ComposedFields : Prop :=
  ∀ p : Part,
    (p.compose .dark = ⟨0, 15, fieldOfStation p.station, .dark⟩) ∧
    (p.ownHeld ≤ 2 → p.compose .drop = ⟨0, 15, fieldOfStation p.station,
      .drop (BitVec.ofNat 2 (p.ownHeld - p.dropTarget)) (BitVec.ofNat 2 p.dropTarget)⟩) ∧
    (p.ctl.standing = .active → ∀ c, p.ctl.config = some c →
      p.compose .hold = ⟨0, 15, fieldOfStation p.station,
        .hold 0 (BitVec.ofNat 2 p.ownHeld) (BitVec.ofNat 5 (c.budget - 1)) (BitVec.ofNat 3 p.cyc.phaseClass.code)⟩) ∧
    (p.ctl.standing = .isolated → ∀ c, p.ctl.config = some c →
      p.compose .hold = ⟨0, 15, fieldOfStation p.station,
        .hold 1 0 (BitVec.ofNat 5 (c.budget - 1)) (BitVec.ofNat 3 p.cyc.phaseClass.code)⟩) ∧
    (∀ added, added = min (p.cyc.heatWant - p.ownHeld) p.freeStages →
      p.compose .take = ⟨if p.cyc.resumed = true then 0 else 1, BitVec.ofNat 4 (15 - p.ctl.waitAge),
        fieldOfStation p.station, .take (BitVec.ofNat 2 added) (BitVec.ofNat 2 (p.ownHeld + added))⟩) ∧
    (∀ u, p.cyc.laneWant = some u →
      p.compose .lane = ⟨BitVec.ofNat 2 u, BitVec.ofNat 4 (15 - p.ctl.waitAge), fieldOfStation p.station,
        .lane (BitVec.ofNat 2 u)⟩) ∧
    (p.cyc.phase = .idle → p.cyc.phaseClass = .idle) ∧
    (p.cyc.phase = .dry ∨ ((p.cyc.phase = .startWait ∨ p.cyc.phase = .spinup) ∧ p.cyc.target = .dry) →
      p.cyc.phaseClass = if p.cyc.resumed = true then .dryResumed else .dry) ∧
    (p.cyc.phase = .cool ∨ ((p.cyc.phase = .startWait ∨ p.cyc.phase = .spinup) ∧ p.cyc.target = .cool) →
      p.cyc.phaseClass = .cool) ∧
    (p.cyc.phase = .rest ∨ p.cyc.phase = .burstWait ∨ p.cyc.phase = .burst → p.cyc.phaseClass = .crease) ∧
    (p.cyc.phase = .halted → p.cyc.phaseClass = .halted) ∧
    [PhaseClass.idle, .dry, .dryResumed, .cool, .crease, .halted].map (·.code) = [0, 1, 2, 3, 4, 5]

/-- R12 to R15, R65, R66: no frame the station offers breaks a FORM rule, given the ranges of what it is composed
from. -/
def Obligations.OfferedFramesAreWellFormed : Prop :=
  ∀ (p : Part) (k : Kind), p.Settled → p.ownHeld ≤ 2 → p.cyc.heatWant ≤ 2 → (∀ u ∈ p.cyc.laneWant, u ≤ 2) →
    p.offered = some k → (p.compose k).formOk = true ∧ (p.compose k).kind = k

/-- R2, R7, R11 to R15, R17, R25: what a sender puts on the line for a frame that breaks no FORM rule, a receiver reads
back as that frame, with no error. Tables 1-2 and 1-3, bit by bit: the key (kind, urgency, aging code, station) and the
body of each kind, each field highest bit first; the lengths of R11 to R15; the station field is the number less 1. -/
def Obligations.ReceiverReadsWhatWasSent : Prop :=
  (∀ f : Frame, f.formOk = true → readFrame f.composed.wireBits = some (f, false)) ∧
  (∀ (u : BitVec 2) (a st : BitVec 4) (x y : BitVec 2) (b : BitVec 5) (k : BitVec 3),
    let rest : List Bit := [u[1], u[0], a[3], a[2], a[1], a[0], st[3], st[2], st[1], st[0]]
    (⟨u, a, st, .dark⟩ : Frame).coveredBits = [false, false, false] ++ rest ∧
    (⟨u, a, st, .drop x y⟩ : Frame).coveredBits = [false, false, true] ++ rest ++ [x[1], x[0], y[1], y[0]] ∧
    (⟨u, a, st, .hold x y b k⟩ : Frame).coveredBits = [false, true, false] ++ rest ++
      [x[1], x[0], y[1], y[0], b[4], b[3], b[2], b[1], b[0], k[2], k[1], k[0]] ∧
    (⟨u, a, st, .take x y⟩ : Frame).coveredBits = [false, true, true] ++ rest ++ [x[1], x[0], y[1], y[0]] ∧
    (⟨u, a, st, .lane x⟩ : Frame).coveredBits = [true, false, false] ++ rest ++ [x[1], x[0]]) ∧
  (∀ f : Frame, f.composed = ⟨f, checkOf f.coveredBits⟩ ∧ f.coveredBits = f.keyBits ++ f.body.bits ∧
    f.keyBits.length = 13 ∧ f.body.bits.length = f.kind.bodyBits ∧
    f.composed.wireBits = withSpacers (f.coveredBits ++ bitsOf 16 (checkOf f.coveredBits).toNat) ∧
    f.composed.wireBits.length = f.kind.wireLength) ∧
  (∀ w n, bitsOf w n = (List.range w).map fun j => n.testBit (w - 1 - j)) ∧
  ([Kind.dark, .drop, .hold, .take, .lane].map (·.code) = [0, 1, 2, 3, 4] ∧
    [Kind.dark, .drop, .hold, .take, .lane].map (·.bodyBits) = [0, 4, 12, 4, 2] ∧
    [Kind.dark, .drop, .hold, .take, .lane].map (·.wireLength) = [37, 42, 52, 42, 39]) ∧
  (∀ st : BitVec 4, (stationOfField st).val = st.toNat) ∧
  ∀ i : Station, (fieldOfStation i).toNat = stationNumber i - 1 ∧ stationNumber i = i.val + 1

/-- R17: the check register starts at all ones; each key and body bit moves it one stage and combines it with 1B2Fh if
the bit and the former highest stage differed. -/
def Obligations.CheckRegister : Prop :=
  checkOf [] = 0xFFFF#16 ∧
    ∀ (bits : List Bit) (b : Bit), checkOf (bits ++ [b]) =
      if b = (checkOf bits).msb then checkOf bits <<< 1 else (checkOf bits <<< 1) ^^^ 0x1B2F#16

/-- R8: the end of the key makes the sender go on; dominant read on a recessive key bit makes it a receiver of the
winner's frame, its own frame discarded, the rest of the line unit and the pending-send set as they were. -/
def Obligations.Arbitration : Prop :=
  ∀ s : State, s.works → s.line.state = .arbitrating →
    exec .arbitrationWon s = .next { s with line := { s.line with state := .sending } } ∧
    exec .arbitrationLost s = .next { s with toPart := Part.rideCheck { s.toPart with line := { s.line with
      state := .receiving, role := .receiver, sent := none, received := none } } }

/-- R8, R9: payload loss of the frame being sent, and interference with it, also on a spacer of its key. A run that grows
into a start mark cuts the frame short: no verdict, no courtesy gap, the new frame received. Otherwise payload loss
reports DUPLICATE STATION and follows the other frame; interference keeps the own frame for the end of its slot. Payload
loss is taken in ARBITRATING too, for the moment at which SENDING begins is log 39's. -/
def Obligations.SenderMismatch : Prop :=
  ∀ s : State, s.works →
    let new : LineUnit := { s.line with
      state := .receiving, role := .receiver, sent := none, received := none, recessive := 0, courtesy := false }
    (s.line.state = .arbitrating ∨ s.line.state = .sending →
      exec (.payloadLoss true) s = .next { s with toPart := (Part.settle { s.toPart with line := new }).rideCheck } ∧
      exec (.payloadLoss false) s = .next { s with toPart :=
        (Part.settle (Part.onDuplicateStation { s.toPart with line := { s.line with
          state := .receiving, role := .payloadLost, sent := none, received := none } })).rideCheck }) ∧
    (s.line.state = .arbitrating ∨ s.line.state = .sending →
      exec (.interference true) s = .next { s with toPart := (Part.settle { s.toPart with line := new }).rideCheck } ∧
      exec (.interference false) s = .next { s with toPart :=
        (Part.rideCheck { s.toPart with line := { s.line with
          state := .receiving, role := .interfered, received := none } }) })

/-- R3, R6, R9, R16, R18: a start mark. On the idle line a new frame is received; while one is being received that
frame is SHORT, scored and not applied; an own start mark clears the courtesy gap; in STUCK it is not recognised. In
VERDICT the run has reached 6 bit times in the slot: an own frame is voided first wherever the run began, a received one
too if the run began in the slot, and is SHORT if it began before (log 21). -/
def Obligations.StartMark : Prop :=
  ∀ (s : State) (inSlot : Bool), s.works →
    let new : LineUnit := { s.line with
      state := .receiving, role := .receiver, sent := none, received := none, recessive := 0, courtesy := false }
    (s.line.state = .idle → exec (.startMarkRecognised inSlot) s = .next { s with line := new }) ∧
    (s.line.state = .arbitrating →
      exec (.startMarkRecognised inSlot) s =
        .next { s with line := { s.line with courtesy := false, recessive := 0 } }) ∧
    (s.line.state = .receiving → s.line.role ≠ .interfered →
      exec (.startMarkRecognised inSlot) s = .next { s with toPart :=
        (Part.settle (Part.scoreError { s.toPart with line := new })).rideCheck }) ∧
    (s.line.state = .receiving → s.line.role = .interfered →
      exec (.startMarkRecognised inSlot) s = .next { s with toPart :=
        (Part.settle { s.toPart with line := new }).rideCheck }) ∧
    (s.line.state = .sending → exec (.startMarkRecognised inSlot) s = .next { s with toPart :=
      (Part.settle { s.toPart with line := new }).rideCheck }) ∧
    (s.line.state = .verdict → inSlot = false → s.line.role = .receiver ∨ s.line.role = .payloadLost →
      exec (.startMarkRecognised inSlot) s = .next { s with toPart :=
        (Part.settle (Part.scoreError { s.toPart with line := new })).rideCheck }) ∧
    (s.line.state = .verdict → inSlot = true ∨ s.line.role = .sender ∨ s.line.role = .interfered →
      ∃ t : State, exec (.verdictSlotEnd true true) s = .next t ∧
        exec (.startMarkRecognised inSlot) s = .next (if t.works then { t with line := { t.line with
          state := .receiving, role := .receiver, sent := none, received := none, recessive := 0,
          courtesy := false } } else t)) ∧
    (s.line.state = .stuck → exec (.startMarkRecognised inSlot) s = .next s)

/-- R16, R22: a frame of kind 5, 6 or 7 is abandoned: the line unit is IDLE with the line busy, and the error scored. -/
def Obligations.InvalidKind : Prop :=
  ∀ (s : State) (kind : BitVec 3), s.works → s.line.state = .receiving → s.line.role = .receiver → 5 ≤ kind.toNat →
    exec (.invalidKindAbandon kind) s = .next { s with toPart := Part.settle (Part.scoreError { s.toPart with
      line := { s.line with state := .idle, role := .none, sent := none, received := none, recessive := 0 } }) }

/-- R16, R20: at the end of the closing spacer a receiver knows the frame and its error, and decides its objection: for
an error unless DEAF, for a conflict of a clean frame when ACTIVE. The sender enters its slot, also after interference.
Bits that are no frame's change nothing (log 9). R2, R7, R11 to R15, R17, R19: what is read of the bits (every fifth and the
last are spacers) is the frame whose key and body they spell, with an error exactly if a spacer has the value of the
bit before it, the check is not the one over key and body, or a FORM condition is met, kind by kind. R4: the recessive
count goes on from the recessive bits after the last dominant one. -/
def Obligations.ClosingSpacer : Prop :=
  (∀ (bits : List Bit) (f : Frame) (error : Bool), readFrame bits = some (f, error) →
    let isSpacer := fun j : Nat => j % 5 = 4 ∨ j + 1 = bits.length
    let frameBits := ((List.range bits.length).filter fun j => ¬ isSpacer j).map fun j => bits.getD j true
    bits.length = f.kind.wireLength ∧
    frameBits.take (13 + f.kind.bodyBits) = f.coveredBits ∧
    (error = true ↔ (∃ j, isSpacer (j + 1) ∧ j + 1 < bits.length ∧ bits.getD (j + 1) true = bits.getD j true) ∨
      frameBits.drop (13 + f.kind.bodyBits) ≠ bitsOf 16 (checkOf f.coveredBits).toNat ∨ f.formOk = false)) ∧
  (∀ (u : BitVec 2) (a st : BitVec 4) (x y : BitVec 2) (b : BitVec 5) (c : BitVec 3),
    ((⟨u, a, st, .dark⟩ : Frame).formOk = true ↔ u = 0 ∧ a = 15) ∧
    ((⟨u, a, st, .drop x y⟩ : Frame).formOk = true ↔
      u = 0 ∧ a = 15 ∧ x ≠ 0 ∧ x ≠ 3 ∧ y ≠ 2 ∧ y ≠ 3 ∧ x.toNat + y.toNat ≤ 2) ∧
    ((⟨u, a, st, .hold x y b c⟩ : Frame).formOk = true ↔
      u = 0 ∧ a = 15 ∧ x ≠ 2 ∧ x ≠ 3 ∧ (x = 1 → y = 0) ∧ y ≠ 3 ∧ c ≠ 6 ∧ c ≠ 7) ∧
    ((⟨u, a, st, .take x y⟩ : Frame).formOk = true ↔
      u ≠ 2 ∧ u ≠ 3 ∧ x ≠ 0 ∧ x ≠ 3 ∧ y ≠ 0 ∧ y ≠ 3 ∧ x.toNat ≤ y.toNat) ∧
    ((⟨u, a, st, .lane x⟩ : Frame).formOk = true ↔ x ≠ 3 ∧ x = u)) ∧
  (∀ (bits : List Bit) (n : Nat), trailingRecessive (bits ++ false :: List.replicate n true) = n ∧
    trailingRecessive (List.replicate n true) = n) ∧
  ∀ (s : State) (bits : List Bit), s.works → bits.length ∈ frameLengths →
    (s.line.state = .sending → exec (.closingSpacerEnd bits) s = .next { s with line := { s.line with
      state := .verdict, recessive := trailingRecessive bits } }) ∧
    (s.line.state = .receiving → s.line.role = .receiver ∨ s.line.role = .payloadLost →
      ∀ f error, readFrame bits = some (f, error) →
      exec (.closingSpacerEnd bits) s = .next { s with line := { s.line with
        state := .verdict
        received := some ⟨f, error,
          if error = true then decide (s.ctl.standing ≠ .deaf)
          else decide (s.ctl.standing = .active) && s.conflict f⟩
        recessive := trailingRecessive bits } }) ∧
    (s.line.state = .receiving → s.line.role = .interfered →
      exec (.closingSpacerEnd bits) s = .next { s with line := { s.line with
        state := .verdict, recessive := trailingRecessive bits } }) ∧
    (s.line.state = .receiving → s.line.role = .receiver ∨ s.line.role = .payloadLost → readFrame bits = none →
      exec (.closingSpacerEnd bits) s = .next s)

/-- R6, R9, R20, R21: the sender's slot: recessive at both sample points, the own frame is applied and OWN ACCEPTED given;
otherwise, or after interference whatever the slot shows, it is voided and not applied; either way the courtesy gap is set
and the line unit IDLE. -/
def Obligations.OwnVerdict : Prop :=
  ∀ (s : State) (f : SentFrame) (a b : Bool), s.works → s.line.state = .verdict →
    s.line.role = .sender ∨ s.line.role = .interfered → s.line.sent = some f →
    let line : LineUnit := { s.line with
      state := .idle, role := .none, sent := none, received := none, courtesy := true
      recessive := if b = true then 0 else if a = true then 1 else min 19 (s.line.recessive + 2) }
    exec (.verdictSlotEnd a b) s = .next { s with toPart := (Part.settle
      (if s.line.role = .interfered ∨ a = true ∨ b = true then Part.ownVoided { s.toPart with line := line } f.frame
        else (Part.applyFrame { s.toPart with line := line } f.frame).ownAccepted f.frame)).rideCheck }

/-- R9, R10, R20, R21, R22: a receiver's slot, also after payload loss; a station that objects drives it itself. An
erroneous frame is scored and not applied; a clean one is applied if accepted, with DUPLICATE STATION if it bears the own
number, and lowers the score. -/
def Obligations.ReceivedVerdict : Prop :=
  ∀ (s : State) (f : Frame) (a b error objects : Bool), s.works → s.line.state = .verdict →
    s.line.role = .receiver ∨ s.line.role = .payloadLost → s.line.received = some ⟨f, error, objects⟩ →
    let p : Part := { s.toPart with line := { s.line with
      state := .idle, role := .none, sent := none, received := none
      recessive := if b = true ∨ objects = true then 0 else if a = true then 1 else min 19 (s.line.recessive + 2) } }
    exec (.verdictSlotEnd a b) s = .next { s with toPart := (Part.settle
      (if error = true then p.scoreError
        else if a = true ∨ b = true ∨ objects = true then p.scoreClean
        else if stationOfField f.station = s.station then ((p.applyOwnNumber f).onDuplicateStation).scoreClean
        else (p.applyFrame f).scoreClean)).rideCheck }

/-- R22, R56: an error adds 8 up to 255, but not in DEAF; at 96 or more the station becomes DEAF with a FAULT notice, from
LISTENING, ACTIVE and ISOLATED. A clean frame subtracts 1 down to 0; at 0 DEAF becomes LISTENING. -/
def Obligations.ObjectionScore : Prop :=
  ∀ p : Part,
    (p.ctl.standing ≠ .deaf → p.scoreError.line.score = min 255 (p.line.score + 8)) ∧
    (p.ctl.standing = .deaf → p.scoreError = p) ∧
    p.scoreClean.line.score = p.line.score - 1 ∧
    (p.ctl.standing = .active ∨ p.ctl.standing = .listening ∨ p.ctl.standing = .isolated → 96 ≤ p.line.score + 8 →
      p.scoreError =
        Part.faultStanding { p with line := { p.line with score := min 255 (p.line.score + 8) } } .deaf .deaf) ∧
    (p.ctl.standing = .unconfigured ∨ p.ctl.standing = .barred ∨ p.ctl.standing = .dark ∨
        (p.ctl.standing ≠ .deaf ∧ p.line.score + 8 < 96) →
      p.scoreError = { p with line := { p.line with score := min 255 (p.line.score + 8) } }) ∧
    (p.ctl.standing = .deaf → p.line.score ≤ 1 →
      p.scoreClean = Part.changeStanding { p with line := { p.line with score := 0 } } .listening) ∧
    (p.ctl.standing ≠ .deaf ∨ 1 < p.line.score →
      p.scoreClean = { p with line := { p.line with score := p.line.score - 1 } })

/-- R4, R6, R23, R54: 11 and 19 recessive bit times; a stuck line (any frame is abandoned, a FAULT notice is queued, and
ACTIVE and LISTENING become ISOLATED) and its end. -/
def Obligations.LineLevels : Prop :=
  ∀ s : State, s.works →
    (s.line.state = .idle → s.line.recessive ≤ 11 →
      exec .lineIdle s = .next { s with line := { s.line with recessive := 11 } }) ∧
    (s.line.state = .idle → s.line.courtesy = true → s.line.recessive ≤ 19 →
      exec .courtesyGapEnd s = .next { s with line := { s.line with courtesy := false, recessive := 19 } }) ∧
    (s.line.state = .stuck → exec .stuckCleared s = .next { s with line := { s.line with
      state := .idle, role := .none, sent := none, received := none, recessive := 11 } }) ∧
    (s.line.state ≠ .stuck → ∀ p : Part, p = { s.toPart with line := { s.line with
        state := .stuck, role := .none, sent := none, received := none, recessive := 0 } } →
      exec .lineStuck s = .next { s with toPart := (Part.settle
        (if s.ctl.standing = .active ∨ s.ctl.standing = .listening then p.faultStanding .isolated .lineStuck
          else p.notifyFault .lineStuck)).rideCheck })

/-! ## The group roster (02) -/

/-- R31: held total, effective budget and free stages. -/
def Obligations.DerivedValues : Prop :=
  ∀ (r : Roster) (own : Option Nat),
    r.heldTotal = ∑ i : Station, (if (r.entry i).presence = .present then (r.entry i).held else 0) ∧
    (∀ b, r.effectiveBudget own = some b ↔
      (own = some b ∨ ∃ i, (r.entry i).presence = .present ∧ (r.entry i).declaredBudget = some b) ∧
        (∀ o ∈ own, b ≤ o) ∧
        ∀ i, (r.entry i).presence = .present → ∀ d ∈ (r.entry i).declaredBudget, b ≤ d) ∧
    r.freeStages own = (match r.effectiveBudget own with
      | none => 0
      | some b => b - r.heldTotal)

/-- R32, R34, R36, R37, R38: what an accepted frame makes of its sender's entry; every other entry is as it was. R35, R37,
R39, R47: then the budget is compared, the lane record taken and the excess check made; a frame with the own number that
was not sent here has the last two alone. R32 orders entry, lane record and excess check; that the budget is compared
before the lane record is taken is the model's (DEDUCED, log 13). R13: the phase classes of the codes 0 to 5. -/
def Obligations.AppliedEntry : Prop :=
  ∀ (p : Part) (u : BitVec 2) (a st : BitVec 4) (j : Station),
    let i := stationOfField st
    (∀ body, j ≠ i → (p.applyFrame ⟨u, a, st, body⟩).roster.entry j = p.roster.entry j) ∧
    ((p.applyFrame ⟨u, a, st, .dark⟩).roster.entry i = { p.roster.entry i with
      presence := .dark, held := 0, sinceHeard := 0, mismatch := false }) ∧
    (∀ x y, (p.applyFrame ⟨u, a, st, .take x y⟩).roster.entry i = { p.roster.entry i with
      presence := .present, held := y.toNat, sinceHeard := 0 }) ∧
    (∀ x y, (p.applyFrame ⟨u, a, st, .drop x y⟩).roster.entry i = { p.roster.entry i with
      presence := .present, held := y.toNat, sinceHeard := 0 }) ∧
    (∀ x, (p.applyFrame ⟨u, a, st, .lane x⟩).roster.entry i = { p.roster.entry i with
      presence := .present, sinceHeard := 0 }) ∧
    (∀ x h b c, x.toNat < 2 → c.toNat < 6 →
      (p.applyFrame ⟨u, a, st, .hold x h b c⟩).roster.entry i = {
        presence := .present
        declaredStanding := some (if x = 0 then .active else .isolated)
        held := h.toNat
        declaredBudget := some (b.toNat + 1)
        phaseClass := PhaseClass.ofCode c.toNat
        sinceHeard := 0
        mismatch := (p.roster.entry i).mismatch || (match p.ctl.config with
          | none => false
          | some k => decide (i ≠ p.station ∧ b.toNat + 1 ≠ k.budget)) }) ∧
    (∀ f : Frame, p.applyFrame f = Part.excessCheck (Part.applyLane (Part.budgetMismatch { p with
        roster := p.roster.withEntry (stationOfField f.station)
          ((p.roster.entry (stationOfField f.station)).applied f.body) } f) f) ∧
      p.applyOwnNumber f = (p.applyLane f).excessCheck ∧
      p.applyLane f = { p with roster := { p.roster with lane := match f.body with
        | .lane _ => some ⟨stationOfField f.station, match p.ctl.config with
          | none => 10000
          | some c => c.spacing * 1000⟩
        | _ => p.roster.lane } }) ∧
    [0, 1, 2, 3, 4, 5].map PhaseClass.ofCode =
      [some .idle, some .dry, some .dryResumed, some .cool, some .crease, some .halted] ∧
    ∀ e : Entry,
      e.applied .dark = { e with presence := .dark, held := 0, sinceHeard := 0, mismatch := false } ∧
      (∀ x y, e.applied (.take x y) = { e with presence := .present, held := y.toNat, sinceHeard := 0 }) ∧
      (∀ x y, e.applied (.drop x y) = { e with presence := .present, held := y.toNat, sinceHeard := 0 }) ∧
      (∀ x, e.applied (.lane x) = { e with presence := .present, sinceHeard := 0 }) ∧
      ∀ x h b c, e.applied (.hold x h b c) = {
        presence := .present
        declaredStanding := some (if x = 0 then .active else .isolated)
        held := h.toNat
        declaredBudget := some (b.toNat + 1)
        phaseClass := PhaseClass.ofCode c.toNat
        sinceHeard := 0
        mismatch := e.mismatch }

/-- R37, R38, R39: the lane record after an accepted frame, and a frame that bears the own number but was not sent
here, which leaves every entry as it was. -/
def Obligations.LaneRecordAndOwnNumber : Prop :=
  ∀ (p : Part) (f : Frame),
    let spacing := match p.ctl.config with
      | none => 10000
      | some c => c.spacing * 1000
    ((p.applyFrame f).roster.lane = match f.body with
      | .lane _ => some ⟨stationOfField f.station, spacing⟩
      | _ => p.roster.lane) ∧
    ((p.applyOwnNumber f).roster.lane = match f.body with
      | .lane _ => some ⟨stationOfField f.station, spacing⟩
      | _ => p.roster.lane) ∧
    ∀ i, (p.applyOwnNumber f).roster.entry i = p.roster.entry i

/-- R35: a HOLD of another station that declares another budget queues one BUDGET MISMATCH notice and sets the flag while
it is no. Any other HOLD, a frame of another kind, and every frame while there is no own configured budget change
nothing. -/
def Obligations.BudgetMismatch : Prop :=
  ∀ (p : Part) (u : BitVec 2) (a st : BitVec 4),
    let i := stationOfField st
    (∀ (x h : BitVec 2) (b : BitVec 5) (k : BitVec 3) (c : Configuration), p.ctl.config = some c →
      (i ≠ p.station → b.toNat + 1 ≠ c.budget → (p.roster.entry i).mismatch = false →
        p.budgetMismatch ⟨u, a, st, .hold x h b k⟩ = { p with
          roster := p.roster.withEntry i { p.roster.entry i with mismatch := true }
          ntc := p.ntc.arrive c.trigger ⟨.budgetMismatch, i, p.cyc.phase, some (b.toNat + 1)⟩ }) ∧
      ((i = p.station ∨ b.toNat + 1 = c.budget ∨ (p.roster.entry i).mismatch = true) →
        p.budgetMismatch ⟨u, a, st, .hold x h b k⟩ = p)) ∧
    (p.ctl.config = none → ∀ body, p.budgetMismatch ⟨u, a, st, body⟩ = p) ∧
    p.budgetMismatch ⟨u, a, st, .dark⟩ = p ∧
    (∀ x, p.budgetMismatch ⟨u, a, st, .lane x⟩ = p) ∧
    (∀ x y, p.budgetMismatch ⟨u, a, st, .drop x y⟩ = p ∧ p.budgetMismatch ⟨u, a, st, .take x y⟩ = p) ∧
    ∀ (j : Station) (e : Entry), (p.roster.withEntry i e).lane = p.roster.lane ∧
      (p.roster.withEntry i e).entry j = if j = i then e else p.roster.entry j

/-- R44, R46: the roster objects to a clean TAKE over the prospective budget (the effective budget with the sender's entry
PRESENT), or stale for a PRESENT sender; to a clean LANE while the lane record has a holder, whoever it is; and to no
frame of another kind (R43). -/
def Obligations.ConflictObjections : Prop :=
  ∀ (p : Part) (u : BitVec 2) (a st : BitVec 4) (added after : BitVec 2),
    let i := stationOfField st
    let e := p.roster.entry i
    let counted := if e.presence = .present then e.held else 0
    let prospective := (p.roster.withEntry i { e with presence := .present }).effectiveBudget (p.ctl.config.map (·.budget))
    (p.conflict ⟨u, a, st, .take added after⟩ = true ↔
      (∀ b, prospective = some b → b < p.roster.heldTotal - counted + after.toNat) ∨
      (e.presence = .present ∧ e.held ≠ after.toNat - added.toNat)) ∧
    (∀ x, p.conflict ⟨u, a, st, .lane x⟩ = true ↔ p.roster.lane ≠ none) ∧
    p.conflict ⟨u, a, st, .dark⟩ = false ∧
    (∀ x y, p.conflict ⟨u, a, st, .drop x y⟩ = false) ∧
    ∀ x h b c, p.conflict ⟨u, a, st, .hold x h b c⟩ = false

/-- R48: the holders in shedding order (group by group, highest station number first), and the walk: the stations
marked are the shortest front part of the order whose held stages come to at least the excess. -/
def Obligations.ShedOrder : Prop :=
  ∀ (r : Roster),
    (∀ c, shedGroup c = match c with
      | some .dry => 2
      | some .dryResumed => 3
      | _ => 1) ∧
    (∀ i, i ∈ r.shedOrder ↔ (r.entry i).presence = .present ∧ 0 < (r.entry i).held) ∧
    r.shedOrder.Pairwise (fun i j => shedGroup (r.entry i).phaseClass < shedGroup (r.entry j).phaseClass ∨
      (shedGroup (r.entry i).phaseClass = shedGroup (r.entry j).phaseClass ∧ j < i)) ∧
    ∀ excess, 0 < excess → excess ≤ r.heldTotal →
      ∃ n, r.marked excess = r.shedOrder.take n ∧
        excess ≤ ((r.marked excess).map fun i => (r.entry i).held).sum ∧
        ∀ m, m < (r.marked excess).length → (((r.marked excess).take m).map fun i => (r.entry i).held).sum < excess

/-- R47, R61: the excess check sheds when it marks the own station in ACTIVE with the shed flag clear, and otherwise
does nothing here. -/
def Obligations.ExcessCheck : Prop :=
  ∀ p : Part,
    (∀ b, p.roster.effectiveBudget (p.ctl.config.map (·.budget)) = some b → b < p.roster.heldTotal →
      p.station ∈ p.roster.marked (p.roster.heldTotal - b) → p.ctl.standing = .active → p.ctl.shed = false →
      p.excessCheck = { p with
        ctl := { p.ctl with shed := true }
        ntc := p.ntc.arrive (triggerOf p.ctl.config)
          ⟨.excessShed, p.station, p.cyc.phase, some (p.roster.heldTotal - b)⟩ }) ∧
    (p.ctl.standing ≠ .active ∨ p.ctl.shed = true → p.excessCheck = p) ∧
    (∀ b, p.roster.effectiveBudget (p.ctl.config.map (·.budget)) = some b → b < p.roster.heldTotal →
      p.station ∉ p.roster.marked (p.roster.heldTotal - b) → p.excessCheck = p) ∧
    (∀ b, p.roster.effectiveBudget (p.ctl.config.map (·.budget)) = some b → p.roster.heldTotal ≤ b →
      p.excessCheck = p) ∧
    (p.roster.effectiveBudget (p.ctl.config.map (·.budget)) = none → p.excessCheck = p)

/-! ## Standing and claims (03) -/

/-- R51: every change of standing: the kinds the new standing does not permit leave the set, the timers it does not
run stop, stages held on leaving ACTIVE set the shed flag, and one notice is queued. R53: the standing timer is left
as it was by a change to ACTIVE. R57: DUPLICATE STATION makes the standing BARRED with a FAULT notice, but in BARRED
and DARK it does nothing. Every other block is as it was. -/
def Obligations.StandingChange : Prop :=
  ∀ (p : Part) (new : Standing) (fault : FaultKind),
    let q := p.changeStanding new
    q.ctl.standing = new ∧
    (q.ctl.send.drop = true → new.permits .drop = true) ∧
    (q.ctl.send.take = true → new.permits .take = true) ∧
    (q.ctl.send.lane = true → new.permits .lane = true) ∧
    (q.ctl.send.hold = true ↔ new = .active ∨ new = .isolated) ∧
    (q.ctl.send.dark = true ↔ new = .dark) ∧
    (new ≠ .active → q.ctl.unheard = .stopped) ∧
    (new = .active → q.ctl.unheard = p.ctl.unheard) ∧
    q.ctl.census = (if new = .active ∨ new = .isolated then .running 0 else .stopped) ∧
    q.ctl.listen = (if new = .listening then .running 0 else .stopped) ∧
    q.ctl.shed = (p.ctl.shed || (decide (p.ctl.standing = .active) && decide (0 < p.ownHeld))) ∧
    q.ctl.config = p.ctl.config ∧ q.ctl.waitAge = p.ctl.waitAge ∧ q.ctl.takeVoids = p.ctl.takeVoids ∧
    q.ntc = p.ntc.arrive (triggerOf p.ctl.config) ⟨.standing, p.station, p.cyc.phase, some new.code⟩ ∧
    (p.faultStanding new fault).ntc =
      p.ntc.arrive (triggerOf p.ctl.config) ⟨.fault, p.station, p.cyc.phase, some fault.code⟩ ∧
    (p.faultStanding new fault).ctl = q.ctl ∧
    q.ctl.permit = p.ctl.permit ∧
    q = { p with ctl := q.ctl, ntc := q.ntc } ∧
    p.faultStanding new fault = { q with ntc := (p.faultStanding new fault).ntc } ∧
    (p.ctl.standing = .barred ∨ p.ctl.standing = .dark → p.onDuplicateStation = p) ∧
    (p.ctl.standing ≠ .barred → p.ctl.standing ≠ .dark →
      p.onDuplicateStation = p.faultStanding .barred .duplicateStation)

/-- R29, R42, R53, R62, R64, R70: the end of the lane spacing clears the holder; a PRESENT entry of another station not
heard for 6 s becomes LOST with nothing held; the listen, standing and census timers run out. An expiry whose timer a
frame taken first has restarted changes nothing (R29, R42, R62). -/
def Obligations.GroupTimers : Prop :=
  ∀ (s : State) (i : Station) (n : Nat), s.works →
    (∀ j, s.roster.lane = some ⟨j, 0⟩ → exec .laneSpacingExpiry s = .next { s with toPart :=
      (Part.settle { s.toPart with roster := { s.roster with lane := none } }) }) ∧
    (∀ j, s.roster.lane = some ⟨j, n⟩ → 0 < n → exec .laneSpacingExpiry s = .next s) ∧
    ((s.roster.entry i).sinceHeard < 6000 → exec (.entryAgedLost i) s = .next s) ∧
    (s.ctl.unheard = .running n → n < 4000 → exec .standingTimerExpiry s = .next s) ∧
    (i ≠ s.station → (s.roster.entry i).presence = .present → 6000 ≤ (s.roster.entry i).sinceHeard →
      exec (.entryAgedLost i) s = .next { s with toPart := (Part.settle { s.toPart with
        roster := s.roster.withEntry i { s.roster.entry i with presence := .lost, held := 0, mismatch := false }
        ntc := s.ntc.arrive (triggerOf s.ctl.config) ⟨.lost, i, s.cyc.phase, none⟩ }) }) ∧
    (s.ctl.standing = .listening → s.ctl.listen = .running n → 4000 ≤ n →
      exec .listenTimerExpiry s = .next { s with toPart := (s.toPart.changeStanding .active).settle }) ∧
    (s.ctl.standing = .active → s.ctl.unheard = .running n → 4000 ≤ n →
      exec .standingTimerExpiry s = .next { s with toPart := (s.toPart.faultStanding .isolated .selfShed).settle }) ∧
    (s.ctl.standing = .active ∨ s.ctl.standing = .isolated → s.ctl.census = .running n → 2000 ≤ n →
      exec .censusTimerExpiry s = .next { s with toPart := (Part.settle { s.toPart with ctl := { s.ctl with
        send := { s.ctl.send with hold := true }
        census := .running 0
        waitAge := if s.ownHeld < s.cyc.heatWant ∨ s.cyc.laneWant ≠ none then min 15 (s.ctl.waitAge + 1)
          else s.ctl.waitAge } }) })

/-- R55, R60, R62, R64, R67 to R70: what the standing controller makes of an own frame accepted, kind by kind and in every
standing, and of one voided. -/
def Obligations.OwnOutcome : Prop :=
  ∀ (p : Part) (f : Frame),
    let t : Part := { p with ctl := { p.ctl with
      send := { p.ctl.send with
        hold := p.ctl.send.hold && decide (f.kind ≠ .hold)
        dark := p.ctl.send.dark && decide (f.kind ≠ .dark) }
      unheard := if p.ctl.unheard.isRunning = true then .running 0 else p.ctl.unheard
      shed := decide (0 < p.ownHeld) && (p.ctl.shed || decide (p.ctl.standing ≠ .active))
      takeVoids := if f.kind = .take ∨ f.kind = .hold then 0 else p.ctl.takeVoids
      waitAge := if f.kind = .lane ∨ (f.kind = .take ∧ p.cyc.heatWant ≤ p.ownHeld) then 0 else p.ctl.waitAge } }
    (f.kind = .drop ∨ f.kind = .take → p.ownAccepted f = t) ∧
    (f.kind = .hold → p.ctl.standing ≠ .isolated → p.ownAccepted f = t) ∧
    (f.kind = .hold → p.ctl.standing = .isolated → p.ownAccepted f = t.changeStanding .listening) ∧
    (f.kind = .dark → p.ownAccepted f = { t with sup := { p.sup with darkSent := true } }) ∧
    (f.kind = .lane → p.ctl.standing = .active → p.ownAccepted f = t.laneGrant) ∧
    (f.kind = .lane → p.ctl.standing ≠ .active → p.ownAccepted f = t) ∧
    (f.kind = .take → p.ownVoided f =
      { p with ctl := { p.ctl with takeVoids := min 4 (p.ctl.takeVoids + 1) } }) ∧
    (f.kind ≠ .take → p.ownVoided f = p)

/-- R68, R75, R96: an own LANE accepted in ACTIVE is a lane grant: START_WAIT goes to SPINUP, BURST_WAIT to BURST with
its full length, each with a start order; in any other phase, and out of ACTIVE, no motor is started. -/
def Obligations.LaneGrant : Prop :=
  ∀ p : Part,
    (p.sup.power = .run → p.cyc.phase = .startWait → p.laneGrant =
      Part.changePhase { p with gate := { p.gate with startOrder := true } } .spinup) ∧
    (p.sup.power = .run → p.cyc.phase = .burstWait → p.laneGrant =
      Part.changePhase { p with
        gate := { p.gate with startOrder := true }
        cyc := { p.cyc with burst := ⟨(Program.shown p.cyc.program).burst, 0⟩ } } .burst) ∧
    ((p.cyc.phase ≠ .startWait ∧ p.cyc.phase ≠ .burstWait) → p.laneGrant = p) ∧
    ∀ f : Frame, f.kind = .lane →
      (p.ctl.standing ≠ .active → (p.ownAccepted f).cyc = p.cyc ∧ (p.ownAccepted f).gate = p.gate) ∧
      (p.ctl.standing = .active → (p.ownAccepted f).cyc.phase =
        if p.sup.power = .run ∧ p.cyc.phase = .startWait then .spinup
        else if p.sup.power = .run ∧ p.cyc.phase = .burstWait then .burst else p.cyc.phase)

/-- R59, R65, R66, R68, R70 in every settled part: the heat permit, the three conditions of the set, the wait age. R74: the
wants, in RUN. R80, R110, R112: the starvation timer is 0 while stages are held, grace and report go with EXHAUST HOT and
DRY, and no start order stands without a want. That the wait age is 0 without an unmet want in every standing is log 38. -/
def Obligations.ClaimsOfASettledPart : Prop :=
  ∀ p : Part, p.Settled →
    p.ctl.permit = (if p.ctl.standing = .active ∧ p.ctl.shed = false then min p.ownHeld p.cyc.heatWant else 0) ∧
    (p.ctl.send.drop = true ↔
      p.ctl.standing = .active ∧ (if p.ctl.shed = true then 0 else min p.ownHeld p.cyc.heatWant) < p.ownHeld ∧
        (p.gate.heat1.on = true → 1 ≤ if p.ctl.shed = true then 0 else min p.ownHeld p.cyc.heatWant) ∧
        (p.gate.heat2.on = true → 2 ≤ if p.ctl.shed = true then 0 else min p.ownHeld p.cyc.heatWant)) ∧
    (p.ctl.send.take = true ↔
      p.ctl.standing = .active ∧ p.ctl.shed = false ∧ p.ownHeld < p.cyc.heatWant ∧ 1 ≤ p.freeStages ∧
        p.ctl.takeVoids < 4) ∧
    (p.ctl.send.lane = true ↔
      p.ctl.standing = .active ∧ p.cyc.laneWant ≠ none ∧ p.roster.lane = none ∧ p.gate.motorMinOff = .reached) ∧
    (p.ctl.send.dark = true → p.ctl.standing = .dark) ∧
    (p.ctl.send.hold = true → p.ctl.standing = .active ∨ p.ctl.standing = .isolated) ∧
    (p.cyc.heatWant ≤ p.ownHeld → p.cyc.laneWant = none → p.ctl.waitAge = 0) ∧
    (p.sup.power = .run →
      p.cyc.heatWant = (if p.cyc.phase = .dry ∧ p.cyc.heatBarred = false ∧ p.gate.report = false
        then (p.cyc.program.map (·.stages)).getD 0 else 0) ∧
      p.cyc.laneWant = (if p.cyc.phase = .startWait then some (if p.cyc.resumed = true then 0 else 1)
        else if p.cyc.phase = .burstWait then some 2 else none) ∧
      (p.cyc.motorWanted = true ↔
        p.cyc.phase = .spinup ∨ p.cyc.phase = .dry ∨ p.cyc.phase = .cool ∨ p.cyc.phase = .burst) ∧
      (1 ≤ p.ownHeld → p.cyc.starvation = 0)) ∧
    (¬ (p.inp.level.exhaustHot = true ∧ p.cyc.phase = .dry) → p.gate.grace = 0 ∧ p.gate.report = false) ∧
    (p.cyc.motorWanted = false → p.gate.startOrder = false)

/-! ## The appliance port and the notice queue (10) -/

/-- R171, R172, R173: the arrival of a notice, and TAKE NOTICE; Table 1-6: the codes of the kinds of notice and fault.
R170: a notice about the own station carries its number and the current phase, a FAULT notice its kind's code. R163: a
request taken, and a reply placed in the buffer with its result code. -/
def Obligations.NoticeArrivalAndTake : Prop :=
  (∀ (q : NoticeQueue) (trigger : Nat) (n : Notice),
    (q.queue.length < 8 → q.arrive trigger n = { q with
      queue := q.queue ++ [n]
      attn := q.attn || decide (n.kind = .fault ∨ n.kind = .cycleEnd ∨ n.kind = .resume) ||
        decide (trigger ≤ q.queue.length + 1)
      aged := if q.queue = [] then .running 0 else q.aged }) ∧
    (8 ≤ q.queue.length → q.arrive trigger n = { q with overflow := true })) ∧
  (∀ (p : Part) (kind : NoticeKind) (value : Option Nat) (fault : FaultKind) (code : ResultCode) (data : List Byte)
      (n : Nat),
    p.notifyOwn kind value = { p with
      ntc := p.ntc.arrive (triggerOf p.ctl.config) ⟨kind, p.station, p.cyc.phase, value⟩ } ∧
    p.notifyFault fault = { p with
      ntc := p.ntc.arrive (triggerOf p.ctl.config) ⟨.fault, p.station, p.cyc.phase, some fault.code⟩ } ∧
    p.answer code data = { p with port := ⟨.replyReady, none, code.byte :: data, p.port.sdo⟩ } ∧
    p.taking n = { p with port := ⟨.executing, none, [], List.replicate n 0⟩ } ∧
    zeroBytes n = List.replicate n 0 ∧
    [ResultCode.done, .state, .range, .locked, .busy, .unknown].map (·.byte) = [0, 1, 2, 3, 4, 5]) ∧
  ∀ (s : State), s.works → s.port.state ≠ .executing →
    (s.ntc.queue = [] → exec .takeNotice s = .next { s with
      ntc := { s.ntc with overflow := false }
      port := ⟨.replyReady, none, [0, 0, byte s.ntc.overflow.toNat, 0, 0, 0, 0, 0, 0], zeroBytes 1⟩ }) ∧
    (∀ n, s.ntc.queue = [n] → exec .takeNotice s = .next { s with
      ntc := ⟨[], false, false, .stopped⟩
      port := ⟨.replyReady, none, [0, 1, byte s.ntc.overflow.toNat, byte n.kind.code, byte (stationNumber n.station),
        byte n.phase.code, byte n.value.isSome.toNat] ++ twoBytes (n.value.getD 0), zeroBytes 1⟩ }) ∧
    (∀ n m rest, s.ntc.queue = n :: m :: rest → exec .takeNotice s = .next { s with
      ntc := { s.ntc with queue := m :: rest, aged := .running 0 }
      port := ⟨.replyReady, none, [0, 1, byte s.ntc.overflow.toNat, byte n.kind.code, byte (stationNumber n.station),
        byte n.phase.code, byte n.value.isSome.toNat] ++ twoBytes (n.value.getD 0), zeroBytes 1⟩ }) ∧
    [NoticeKind.resume, .phase, .cycleEnd, .standing, .fault, .budgetMismatch, .lost, .excessShed, .heatStarved,
      .tornSlot, .inputChange].map (·.code) = [1, 2, 3, 4, 5, 6, 7, 8, 9, 10, 11] ∧
    [FaultKind.noRotation, .rotationLost, .highLimit, .duplicateStation, .lineStuck, .selfShed, .deaf].map (·.code) =
      [1, 2, 3, 4, 5, 6, 7]

/-- R52, R166: CONFIGURE: LOCKED, STATE and RANGE, in that order, and what it does when it passes. R30, R47, R172: a new
configuration raises ATTN if the trigger changes to at most the number queued, and the excess check is made. -/
def Obligations.Configure : Prop :=
  ∀ (s : State) (b sp re li tr : Byte), s.works → s.port.state ≠ .executing →
    let c : Configuration := ⟨b.toNat, sp.toNat, re.toNat, li.toNat, tr.toNat⟩
    let ranges := (1 ≤ c.budget ∧ c.budget ≤ 32) ∧ (2 ≤ c.spacing ∧ c.spacing ≤ 10) ∧ c.reheat ≤ 15 ∧
      (1 ≤ c.limit ∧ c.limit ≤ 8) ∧ (c.trigger = 1 ∨ c.trigger = 2 ∨ c.trigger = 4 ∨ c.trigger = 8)
    (s.ctl.standing ≠ .unconfigured → exec (.configure b sp re li tr) s =
      .next { s with port := ⟨.replyReady, none, [3], zeroBytes 6⟩ }) ∧
    (s.ctl.standing = .unconfigured → s.res.decided = false → exec (.configure b sp re li tr) s =
      .next { s with port := ⟨.replyReady, none, [1], zeroBytes 6⟩ }) ∧
    (s.ctl.standing = .unconfigured → s.res.decided = true → ¬ ranges → exec (.configure b sp re li tr) s =
      .next { s with port := ⟨.replyReady, none, [2], zeroBytes 6⟩ }) ∧
    (s.ctl.standing = .unconfigured → s.res.decided = true → ranges → exec (.configure b sp re li tr) s =
      .next { s with toPart := (Part.settle (Part.answer (Part.requestCheckpoint
        (Part.changeStanding (Part.setConfig (s.toPart.taking 6) (some c)) .listening)) .done [])) }) ∧
    ∀ (p : Part) (d : Option Configuration),
      let trigger : Option Configuration → Nat := fun
        | none => 1
        | some y => y.trigger
      triggerOf d = trigger d ∧
      let raised := decide (trigger d ≠ trigger p.ctl.config ∧ trigger d ≤ p.ntc.queue.length)
      p.setConfig d = Part.excessCheck { p with
        ctl := { p.ctl with config := d }, ntc := { p.ntc with attn := p.ntc.attn || raised } }

/-- R73: BEGIN: STATE before RANGE, and the cycle it starts. -/
def Obligations.Begin : Prop :=
  ∀ (s : State) (dry st cool : Byte) (w : BitVec 16) (bu re : Byte), s.works → s.port.state ≠ .executing →
    let g : Program := ⟨dry.toNat, st.toNat, cool.toNat, w.toNat, bu.toNat, re.toNat⟩
    let may := s.sup.power = .run ∧ s.ctl.standing ≠ .unconfigured ∧ s.cyc.phase = .idle ∧ s.inp.level.door = false ∧
      s.inp.level.highLimit = false
    let ranges := (1 ≤ g.dryTime ∧ g.dryTime ≤ 240) ∧ (1 ≤ g.stages ∧ g.stages ≤ 2) ∧ g.coolTime ≤ 30 ∧
      g.window ≤ 720 ∧ (5 ≤ g.burst ∧ g.burst ≤ 60) ∧ (1 ≤ g.rest ∧ g.rest ≤ 30)
    (¬ may → exec (.beginCycle dry st cool w bu re) s =
      .next { s with port := ⟨.replyReady, none, [1], zeroBytes 8⟩ }) ∧
    (may → ¬ ranges → exec (.beginCycle dry st cool w bu re) s =
      .next { s with port := ⟨.replyReady, none, [2], zeroBytes 8⟩ }) ∧
    (may → ranges → exec (.beginCycle dry st cool w bu re) s =
      .next { s with toPart := (Part.settle (Part.answer (Part.changePhase { s.toPart.taking 8 with
        cyc := { s.cyc with
          target := .dry
          program := some g
          remainingDry := g.dryTime * 60
          cool := ⟨0, 0⟩
          window := ⟨0, 0⟩
          rest := ⟨0, 0⟩
          burst := ⟨0, 0⟩
          resumed := false
          heatBarred := false
          highLimitSeen := false
          resumeCount := 0 } } .startWait) .done [])) })

/-- R81, R82, R89: TRIM and CANCEL. -/
def Obligations.TrimAndCancel : Prop :=
  ∀ (s : State) (m : Byte), s.works → s.port.state ≠ .executing →
    (¬ (s.sup.power = .run ∧ s.cyc.phase = .dry) → exec (.trim m) s =
      .next { s with port := ⟨.replyReady, none, [1], zeroBytes 2⟩ }) ∧
    (s.sup.power = .run → s.cyc.phase = .dry → 240 < m.toNat → exec (.trim m) s =
      .next { s with port := ⟨.replyReady, none, [2], zeroBytes 2⟩ }) ∧
    (s.sup.power = .run → s.cyc.phase = .dry → m.toNat ≤ 240 →
      ∀ q : Part, q = Part.requestCheckpoint { s.toPart.taking 2 with
        cyc := { s.cyc with remainingDry := m.toNat * 60, credit := 0 } } →
      exec (.trim m) s = .next { s with toPart :=
        (Part.settle (Part.answer (if m.toNat = 0 then q.endDrying else q) .done [])) }) ∧
    (¬ (s.sup.power = .run ∧ s.cyc.phase ≠ .idle) → exec .cancel s =
      .next { s with port := ⟨.replyReady, none, [1], zeroBytes 1⟩ }) ∧
    (s.sup.power = .run → s.cyc.phase ≠ .idle → exec .cancel s = .next { s with toPart :=
      (Part.settle (Part.answer (Part.endCycle (s.toPart.taking 1)
        (if s.cyc.phase = .halted then .faulted else .cancelled)) .done [])) })

/-- R51, R52, R144, R169: CLEAR, held until the erases end, with its STANDING notice unless UNCONFIGURED before, and
STATION RESET, executed when the journal is quiet and held until then. R24: the station the straps select. -/
def Obligations.ClearAndStationReset : Prop :=
  ∀ (s : State) (straps : BitVec 4), s.works → s.port.state ≠ .executing →
    (¬ (s.sup.power = .run ∧ s.res.decided = true ∧ s.ctl.standing ≠ .barred ∧ s.ctl.standing ≠ .dark ∧
        s.cyc.phase = .idle ∧ s.jrn.operation = none ∧ s.jrn.pendingWrite = false) →
      exec .clear s = .next { s with port := ⟨.replyReady, none, [1], zeroBytes 1⟩ }) ∧
    (s.sup.power = .run → s.res.decided = true → s.ctl.standing ≠ .barred → s.ctl.standing ≠ .dark →
      s.cyc.phase = .idle → s.jrn.operation = none → s.jrn.pendingWrite = false →
      ∃ t : State, exec .clear s = .next t ∧ t.ctl.config = none ∧ t.ctl.standing = .unconfigured ∧
        t.cyc.program = none ∧ t.cyc.outcome = .none ∧ t.cyc.phase = .idle ∧
        t.jrn = { s.jrn with
          operation := some (.erase .a), elapsed := 0, eraseQueued := true, newest := none, newestSequence := none,
          tornA := false, tornB := false } ∧
        t.ntc = (if s.ctl.standing = .unconfigured then (s.toPart.setConfig none).ntc
          else (s.toPart.setConfig none).ntc.arrive 1 ⟨.standing, s.station, .idle, some 0⟩) ∧
        t.port = ⟨.executing, some .clear, [], zeroBytes 1⟩ ∧ t.line = s.line ∧ t.roster = s.roster ∧
        t.sup = s.sup ∧ t.inp = s.inp ∧ t.pins = s.pins ∧ t.res = s.res ∧ t.station = s.station) ∧
    (s.sup.power = .run → s.res.decided = true → s.ctl.standing ≠ .barred → s.ctl.standing ≠ .dark →
      s.cyc.phase = .idle → s.jrn.operation = none → s.jrn.pendingWrite = false → ∀ q r : Part,
      q = Part.setConfig (s.toPart.taking 1) none →
      r = (if q.ctl.standing = .unconfigured then q else q.changeStanding .unconfigured) →
      exec .clear s = .next { s with toPart := Part.settle { r with
        cyc := { r.cyc with program := none, outcome := .none }
        jrn := { r.jrn with
          operation := some (.erase .a), elapsed := 0, eraseQueued := true, newest := none, newestSequence := none,
          tornA := false, tornB := false }
        port := ⟨.executing, some .clear, [], zeroBytes 1⟩ } }) ∧
    stationNumber (stationOfStraps straps) = (if straps = 0 then 16 else straps.toNat) ∧
    (¬ (s.sup.power = .run ∧ s.res.decided = true ∧ s.cyc.phase = .idle) → exec (.stationReset straps) s =
      .next { s with
        pins := { s.pins with straps := straps }
        port := ⟨.replyReady, none, [1], zeroBytes 1⟩ }) ∧
    (s.sup.power = .run → s.res.decided = true → s.cyc.phase = .idle → ¬ s.jrn.quiet →
      exec (.stationReset straps) s = .next { s with
        pins := { s.pins with straps := straps }
        port := ⟨.executing, some .stationReset, [], zeroBytes 1⟩ }) ∧
    (s.sup.power = .run → s.res.decided = true → s.cyc.phase = .idle → s.jrn.quiet →
      exec (.stationReset straps) s = .next { s with
        station := stationOfStraps straps
        line := LineUnit.start
        roster := Roster.start
        ctl := Controller.start
        cyc := Cycle.start
        gate := Gate.start
        sup := { Supply.cold with
          power := .run, settle := .stopped, absence := if s.pins.level.mains = true then .stopped else .running 0 }
        jrn := Journal.start s.jrn.slotA s.jrn.slotB
        port := ⟨.replyReady, none, [0], zeroBytes 1⟩
        ntc := NoticeQueue.start
        inp := ⟨s.pins.level, s.pins.level⟩
        res := ⟨.stationReset, false, .none, none⟩
        pins := { s.pins with straps := straps } })

/-- R26, R143, R167, R168: the three read requests, their data byte by byte (Table 1-5), and the codes of Table 1-6. With
no newest record the slot byte is 0 (log 33), and with no holder the spacing (log 12). -/
def Obligations.Reads : Prop :=
  ∀ (s : State), s.works → s.port.state ≠ .executing →
    exec .readStanding s = .next { s with
      inp := { s.inp with delta := ⟨false, false, false, false⟩ }
      port := ⟨.replyReady, none,
        [0, byte s.ctl.standing.code, byte s.sup.power.code, byte s.cyc.phase.code, byte s.cyc.target.code,
          byte s.ownHeld, byte s.cyc.heatWant, byte (s.cyc.laneWant.getD 255), byte s.ctl.waitAge] ++
        twoBytes s.cyc.remainingDry ++ twoBytes s.cyc.cool.seconds ++ twoBytes s.cyc.window.seconds ++
        twoBytes s.cyc.rest.seconds ++ [byte s.cyc.burst.seconds] ++
        twoBytes (match s.res.lastOutage with
          | .none => 0
          | .unknown => 65535
          | .seconds t => t) ++
        [byte (outageClassCode s.res.lastClass), byte s.line.score, byte s.cyc.outcome.code, byte s.inp.level.code,
          byte s.inp.delta.code], zeroBytes 1⟩ } ∧
    exec .readRoster s = .next { s with port := ⟨.replyReady, none, 0 :: s.rosterBytes, zeroBytes 1⟩ } ∧
    s.rosterBytes.length = 101 ∧ s.standingBytes.length = 24 ∧ s.jrn.checkpointBytes.length = 34 ∧
    (s.jrn.startRead = true → exec .readCheckpoint s = .next { s with
      port := ⟨.executing, some .readCheckpoint, [], zeroBytes 1⟩ }) ∧
    (s.jrn.startRead = false → exec .readCheckpoint s = .next { s with
      port := ⟨.replyReady, none, 0 :: s.jrn.checkpointBytes, zeroBytes 1⟩ }) ∧
    (s.jrn.newest = none → s.jrn.checkpointBytes = [0, 0, byte s.jrn.tornCount] ++ List.replicate 31 0) ∧
    (∀ n r, s.jrn.newest = some n → s.jrn.slot n = .record r →
      let g := Program.shown r.program
      s.jrn.checkpointBytes =
        [1, if n = .a then 0 else 1, byte s.jrn.tornCount] ++ fourBytes r.sequence.toNat ++
        [byte (r.station.val + 1), byte r.config.budget, byte r.config.spacing, byte r.config.reheat,
          byte r.config.limit, byte r.config.trigger, byte r.phase.code, byte r.target.code,
          byte g.dryTime, byte g.stages, byte g.coolTime] ++ twoBytes g.window ++ [byte g.burst, byte g.rest] ++
        twoBytes r.remainingDry ++ twoBytes r.remainingCool ++ twoBytes r.windowRemaining ++
        twoBytes r.restRemaining ++
        [byte r.burstRemaining, byte r.resumeCount,
          byte (r.resumed.toNat + 2 * r.heatBarred.toNat + 4 * r.highLimitSeen.toNat), byte r.outcome.code]) ∧
    s.jrn.tornCount = s.jrn.tornA.toNat + s.jrn.tornB.toNat ∧
    s.rosterBytes =
      (([0, 1, 2, 3, 4, 5, 6, 7, 8, 9, 10, 11, 12, 13, 14, 15] : List Station).flatMap fun i =>
        let e := s.roster.entry i
        [byte e.presence.code,
          match e.declaredStanding with
            | none => 255
            | some x => byte x.code,
          byte e.held, byte (e.declaredBudget.getD 0),
          match e.phaseClass with
            | none => 255
            | some x => byte x.code,
          byte (min 255 (e.sinceHeard / 1000))]) ++
      (match s.roster.lane with
        | none => [0, 0, 0]
        | some l => byte (l.station.val + 1) :: twoBytes l.remaining) ++
      [byte s.roster.heldTotal, byte ((s.roster.effectiveBudget (s.ctl.config.map (·.budget))).getD 0)] ∧
    (∀ n, twoBytes n = [byte (n / 256), byte n]) ∧
    (∀ n, fourBytes n = [byte (n / 16777216), byte (n / 65536), byte (n / 256), byte n]) ∧
    (∀ n, byte n = BitVec.ofNat 8 n) ∧
    [Standing.unconfigured, .listening, .active, .isolated, .deaf, .barred, .dark].map (·.code) =
      [0, 1, 2, 3, 4, 5, 6] ∧
    [Power.off, .settle, .qualify, .run, .ride, .standby].map (·.code) = [0, 1, 2, 3, 4, 5] ∧
    [Phase.idle, .startWait, .spinup, .dry, .cool, .rest, .burstWait, .burst, .halted].map (·.code) =
      [0, 1, 2, 3, 4, 5, 6, 7, 8] ∧
    [Target.none, .dry, .cool].map (·.code) = [0, 1, 2] ∧
    [Presence.absent, .present, .lost, .dark].map (·.code) = [0, 1, 2, 3] ∧
    [DeclaredStanding.active, .isolated].map (·.code) = [0, 1] ∧
    [CycleOutcome.none, .completed, .collected, .abandoned, .cancelled, .declined, .faulted].map (·.code) =
      [0, 1, 2, 3, 4, 5, 6] ∧
    [none, some OutageClass.short, some .medium, some .long].map outageClassCode = [0, 1, 2, 3] ∧
    ∀ l : Levels, l.code = l.door.toNat + 2 * l.exhaustHot.toNat + 4 * l.highLimit.toNat + 8 * l.mains.toNat

/-- R163, R164, R165: unknown and incomplete requests, any request while EXECUTING, and the reply exchange; RECEIVING, in
which a request is taken until SEL's release, and the READY pin between and within exchanges. R26, R162: which
command an exchange is by its bytes (Table 1-4), those beyond the ones it takes being ignored, with 00h
shifted out; and R162: on SDI and SDO each byte goes highest bit first, a byte counts at its eighth clock, and bits after
the last whole byte are ignored. -/
def Obligations.OtherExchanges : Prop :=
  (∀ (s : State) (command : Byte) (n k : Nat), s.works →
    (dataBytesOf command = none → command ≠ 0xFF → s.port.state ≠ .executing →
      exec (.unknownCommand command) s =
        .next { s with port := ⟨.replyReady, none, [5], zeroBytes 1⟩ }) ∧
    (dataBytesOf command = some k → n < k → s.port.state ≠ .executing →
      exec (.incompleteRequest command n) s = .next { s with port := ⟨.idle, none, [], zeroBytes (1 + n)⟩ }) ∧
    (s.port.state = .executing → 1 ≤ n → exec (.requestWhileBusy n) s =
      .next { s with port := { s.port with sdo := 4 :: zeroBytes (n - 1) } }) ∧
    (s.port.state = .replyReady → 1 ≤ n → exec (.replyFetch n) s =
      .next { s with port := ⟨.idle, none, [], s.port.reply.take n ++ zeroBytes (n - s.port.reply.length)⟩ }) ∧
    (s.port.state = .replyReady → exec (.replyFetch 0) s = .next { s with port := { s.port with sdo := [] } }) ∧
    (s.port.state = .executing → 1 ≤ n → exec (.replyFetch n) s =
      .next { s with port := { s.port with sdo := 4 :: zeroBytes (n - 1) } }) ∧
    (s.port.state = .idle → 1 ≤ n → exec (.replyFetch n) s =
      .next { s with port := { s.port with sdo := 1 :: zeroBytes (n - 1) } }) ∧
    (s.port.state = .executing → ∀ i ∈ ([.cancel, .clear, .readStanding, .readRoster,
      .readCheckpoint, .takeNotice] : List Instr),
      exec i s = .next { s with port := { s.port with sdo := [4] } }) ∧
    (s.port.state = .executing → ∀ (b sp re li tr dry st cool bu rest m : Byte) (w : BitVec 16) (straps : BitVec 4),
      exec (.configure b sp re li tr) s =
        .next { s with port := { s.port with sdo := 4 :: zeroBytes 5 } } ∧
      exec (.beginCycle dry st cool w bu rest) s =
        .next { s with port := { s.port with sdo := 4 :: zeroBytes 7 } } ∧
      exec (.trim m) s = .next { s with port := { s.port with sdo := 4 :: zeroBytes 1 } } ∧
      exec (.stationReset straps) s = .next { s with port := { s.port with sdo := [4] } })) ∧
  (∀ (p : Part) (n : Nat) (run : Part → Part),
    (p.sup.power = .off ∨ p.sup.power = .standby → p.ready = none ∧ p.readyWithin n = none) ∧
    (p.works → p.ready = some (decide (p.port.state = .replyReady)) ∧ p.readyWithin 0 = p.ready ∧
      p.readyWithin (n + 1) = some false) ∧
    (p.works → p.port.state ≠ .executing →
      p.exchange n run = run { p with port := ⟨.receiving, none, [], List.replicate n 0⟩ } ∧
      p.request n run = run { p with port := ⟨.executing, none, [], List.replicate n 0⟩ })) ∧
  (∀ (q : Port) (n : Nat), (n < q.sdo.length → some (q.onSdo n) = q.sdo[n]?) ∧ (q.sdo.length ≤ n → q.onSdo n = 0) ∧
    ∀ k, k < 8 → q.sdoBit (8 * n + k) = (q.onSdo n).toNat.testBit (7 - k)) ∧
  (∀ (busy : Bool) (straps : BitVec 4) (bytes : List Byte) (rest : List Bool), rest.length < 8 →
    Instr.ofClocks busy straps
        ((bytes.flatMap fun b => [b[7], b[6], b[5], b[4], b[3], b[2], b[1], b[0]]) ++ rest) =
      Instr.ofExchange busy straps bytes) ∧
  ∀ (busy : Bool) (straps : BitVec 4) (command : Byte) (data : List Byte),
    let exchange := fun bytes : List Byte => Instr.ofExchange false straps bytes
    dataBytesOf command =
      (if command = 0x11 then some 5 else if command = 0x12 then some 7 else if command = 0x13 then some 1
        else if command ∈ ([0x14, 0x15, 0x16, 0x21, 0x22, 0x23, 0x24] : List Byte) then some 0 else none) ∧
    Instr.ofExchange busy straps [] = none ∧
    Instr.ofExchange busy straps (0xFF :: data) = some (.replyFetch data.length) ∧
    (command ≠ 0xFF → Instr.ofExchange true straps (command :: data) = some (.requestWhileBusy (1 + data.length))) ∧
    (command ≠ 0xFF → dataBytesOf command = none →
      exchange (command :: data) = some (.unknownCommand command)) ∧
    (∀ k, dataBytesOf command = some k → data.length < k →
      exchange (command :: data) = some (.incompleteRequest command data.length)) ∧
    (∀ budget spacing reheat limit trigger, exchange (0x11 :: budget :: spacing :: reheat :: limit :: trigger :: data) =
      some (.configure budget spacing reheat limit trigger)) ∧
    (∀ (dry stages cool : Byte) (w : BitVec 16) (burst rest : Byte),
      exchange (0x12 :: dry :: stages :: cool :: byte (w.toNat / 256) :: byte w.toNat :: burst :: rest :: data) =
        some (.beginCycle dry stages cool w burst rest)) ∧
    (∀ minutes, exchange (0x13 :: minutes :: data) = some (.trim minutes)) ∧
    exchange (0x14 :: data) = some .cancel ∧
    exchange (0x15 :: data) = some .clear ∧
    exchange (0x16 :: data) = some (.stationReset straps) ∧
    exchange (0x21 :: data) = some .readStanding ∧
    exchange (0x22 :: data) = some .readRoster ∧
    exchange (0x23 :: data) = some .readCheckpoint ∧
    exchange (0x24 :: data) = some .takeNotice

/-! ## The drying cycle and anti-crease tumbling (04, 05) -/

/-- R91, R92: a phase change and the end of a cycle. -/
def Obligations.PhaseChangeAndCycleEnd : Prop :=
  ∀ (p : Part) (x : Phase) (o : CycleOutcome),
    p.changePhase x = Part.requestCheckpoint { p with
      cyc := { p.cyc with
        phase := x
        checkpointTimer := if x = .dry ∨ x = .cool ∨ x = .rest then .running 0 else .stopped }
      ntc := p.ntc.arrive (triggerOf p.ctl.config) ⟨.phase, p.station, x, none⟩ } ∧
    p.endCycle o = Part.requestCheckpoint { p with
      cyc := { p.cyc with
        phase := .idle
        outcome := o
        target := .none
        remainingDry := 0
        cool := ⟨0, 0⟩
        window := ⟨0, 0⟩
        rest := ⟨0, 0⟩
        burst := ⟨0, 0⟩
        credit := 0
        checkpointTimer := .stopped }
      ntc := (p.ntc.arrive (triggerOf p.ctl.config) ⟨.cycleEnd, p.station, p.cyc.phase, some o.code⟩).arrive
        (triggerOf p.ctl.config) ⟨.phase, p.station, .idle, none⟩ }

/-- R78, R80, R82, R83, R92: a credited second, the end of drying and of cooling, heat starvation and the periodic
checkpoint. A second is not credited where its conditions no longer hold, and a DRY whose remaining dry is 0 ends after
one (log 31, log 32). -/
def Obligations.DryingAndCooling : Prop :=
  ∀ (s : State) (n : Nat), s.sup.power = .run →
    let isOver := fun c : Countdown => c.seconds = 0 ∨ (c.seconds = 1 ∧ 1000 ≤ c.part)
    (¬ (s.cyc.phase = .dry ∧ (s.gate.motor = true ∧ s.gate.watch = .running) ∧ 1 ≤ s.ctl.permit) →
      exec .creditSecond s = .next s) ∧
    (s.cyc.phase = .dry → s.gate.motor = true → s.gate.watch = .running → 1 ≤ s.ctl.permit →
      1000 ≤ s.cyc.credit → 2 ≤ s.cyc.remainingDry → exec .creditSecond s = .next { s with toPart := (Part.settle { s.toPart with
        cyc := { s.cyc with remainingDry := s.cyc.remainingDry - 1, credit := 0 } }) }) ∧
    (s.cyc.phase = .dry → s.gate.motor = true → s.gate.watch = .running → 1 ≤ s.ctl.permit →
      1000 ≤ s.cyc.credit → s.cyc.remainingDry ≤ 1 → exec .creditSecond s = .next { s with toPart := (Part.settle (Part.endDrying
        { s.toPart with cyc := { s.cyc with remainingDry := 0, credit := 0 } })) }) ∧
    ((Program.shown s.cyc.program).coolTime = 0 → s.toPart.endDrying = Part.endCooling (Part.changePhase { s.toPart with
      cyc := { s.cyc with remainingDry := 0, cool := ⟨0, 0⟩ } } .cool)) ∧
    (0 < (Program.shown s.cyc.program).coolTime → s.toPart.endDrying = Part.changePhase { s.toPart with
      cyc := { s.cyc with remainingDry := 0, cool := ⟨(Program.shown s.cyc.program).coolTime * 60, 0⟩ } } .cool) ∧
    (s.cyc.phase = .cool → isOver s.cyc.cool → 0 < (Program.shown s.cyc.program).window →
      exec .endOfCooling s = .next { s with toPart := (Part.settle (Part.changePhase { s.toPart with
        cyc := { s.cyc with
          cool := ⟨0, 0⟩
          target := .none
          window := ⟨(Program.shown s.cyc.program).window * 60, 0⟩
          rest := ⟨(Program.shown s.cyc.program).rest * 60, 0⟩
          burst := ⟨0, 0⟩ } } .rest)) }) ∧
    (s.cyc.phase = .cool → isOver s.cyc.cool → (Program.shown s.cyc.program).window = 0 →
      exec .endOfCooling s = .next { s with toPart := (Part.settle (Part.endCycle { s.toPart with
        cyc := { s.cyc with cool := ⟨0, 0⟩ } } (if s.cyc.heatBarred = true then .faulted else .completed))) }) ∧
    (s.cyc.phase = .dry → 0 < s.cyc.heatWant → s.ownHeld = 0 → s.cyc.starvationReported = false →
      1800000 ≤ s.cyc.starvation →
      exec .heatStarved s = .next { s with
        cyc := { s.cyc with starvation := 1800000, starvationReported := true }
        ntc := s.ntc.arrive (triggerOf s.ctl.config)
          ⟨.heatStarved, s.station, .dry, some s.cyc.remainingDry⟩ }) ∧
    (s.cyc.checkpointTimer = .running n → 60000 ≤ n → exec .checkpointTimerExpiry s = .next { s with toPart :=
      (Part.requestCheckpoint { s.toPart with cyc := { s.cyc with checkpointTimer := .running 0 } }) })

/-- R95, R98, R99: rest, burst and window run out. -/
def Obligations.Tumbling : Prop :=
  ∀ s : State, s.sup.power = .run →
    let isOver := fun c : Countdown => c.seconds = 0 ∨ (c.seconds = 1 ∧ 1000 ≤ c.part)
    let windowOver := s.cyc.window.seconds = 1 ∧ 1000 ≤ s.cyc.window.part
    (s.cyc.phase = .rest → 0 < s.cyc.window.seconds → isOver s.cyc.rest → exec .restExpiry s = .next { s with toPart :=
      (Part.settle (Part.changePhase { s.toPart with cyc := { s.cyc with rest := ⟨0, 0⟩ } } .burstWait)) }) ∧
    (s.cyc.phase = .burst → 0 < s.cyc.window.seconds → isOver s.cyc.burst → exec .burstEnd s = .next { s with toPart :=
      (Part.settle (Part.changePhase { s.toPart with cyc := { s.cyc with
        burst := ⟨0, 0⟩, rest := ⟨(Program.shown s.cyc.program).rest * 60, 0⟩ } } .rest)) }) ∧
    (s.cyc.phase = .burst → s.cyc.window.seconds = 0 → isOver s.cyc.burst → exec .burstEnd s = .next { s with toPart :=
      (Part.settle (Part.endCycle { s.toPart with cyc := { s.cyc with burst := ⟨0, 0⟩ } }
        (if s.cyc.heatBarred = true then .faulted else .completed))) }) ∧
    (s.cyc.phase = .rest ∨ s.cyc.phase = .burstWait → windowOver → exec .windowExpiry s = .next { s with toPart :=
      (Part.settle (Part.endCycle { s.toPart with cyc := { s.cyc with window := ⟨0, 0⟩ } }
        (if s.cyc.heatBarred = true then .faulted else .completed))) }) ∧
    (s.cyc.phase = .burst → windowOver →
      exec .windowExpiry s = .next { s with cyc := { s.cyc with window := ⟨0, 0⟩ } })

/-- R87, R88: the door opens, the high limit trips, phase by phase: the FAULT notice is queued while the high-limit-seen
flag is clear, and a checkpoint is requested. Where remaining cool is raised, the part-second counted stays (log 30). -/
def Obligations.DoorAndHighLimit : Prop :=
  ∀ p : Part,
    let told := if p.cyc.highLimitSeen = true then p.ntc
      else p.ntc.arrive (triggerOf p.ctl.config) ⟨.fault, p.station, p.cyc.phase, some 3⟩
    let barred : Cycle := { p.cyc with heatBarred := true, highLimitSeen := true }
    (p.cyc.phase = .idle → p.doorOpened = p ∧ p.highLimitTripped = p) ∧
    (p.cyc.phase = .dry → p.doorOpened = p.endCycle .abandoned) ∧
    (p.cyc.phase = .startWait ∨ p.cyc.phase = .spinup →
      p.doorOpened = p.endCycle (if p.cyc.target = .cool then .collected else .abandoned)) ∧
    (p.cyc.phase = .cool ∨ p.cyc.phase = .rest ∨ p.cyc.phase = .burstWait ∨ p.cyc.phase = .burst →
      p.doorOpened = p.endCycle .collected) ∧
    (p.cyc.phase = .halted → p.doorOpened = p.endCycle .faulted) ∧
    (p.cyc.phase = .dry → p.highLimitTripped = Part.changePhase { p with
      ntc := told
      cyc := { barred with cool := ⟨max ((Program.shown p.cyc.program).coolTime * 60) 300, 0⟩ } } .cool) ∧
    (p.cyc.phase = .startWait ∨ p.cyc.phase = .spinup → p.highLimitTripped = Part.requestCheckpoint { p with
      ntc := told
      cyc := { barred with
        target := .cool
        cool := ⟨if p.cyc.target = .cool then max p.cyc.cool.seconds 300
          else max ((Program.shown p.cyc.program).coolTime * 60) 300, p.cyc.cool.part⟩ } }) ∧
    (p.cyc.phase = .cool → p.highLimitTripped = Part.requestCheckpoint { p with
      ntc := told
      cyc := { barred with cool := ⟨max p.cyc.cool.seconds 300, p.cyc.cool.part⟩ } }) ∧
    (p.cyc.phase = .rest ∨ p.cyc.phase = .burstWait ∨ p.cyc.phase = .burst ∨ p.cyc.phase = .halted →
      p.highLimitTripped = Part.requestCheckpoint { p with ntc := told, cyc := barred })


/-! ## The inputs and the output gate (06; 10, R174) -/

/-- R74, R80, R107, R108, R110, R112, R113, R116: what working out the derived state makes of the whole part: the wants,
then MOTOR, the permit and the stages. An output that is on stays on exactly while its conditions hold, one that is off
comes on exactly when all of them do; one energized at this very moment goes back to the state it had (log 1, log 36).
Nothing else changes, and no enable output is raised: it follows when time passes. That the wait age
is 0 without an unmet want in every standing is log 38. -/
def Obligations.OutputsFollowTheirConditions : Prop :=
  ∀ p : Part,
    let q := p.settle
    let run := p.sup.power = .run
    let hot := p.inp.level.exhaustHot = true
    let report := p.gate.report && decide (hot ∧ p.cyc.phase = .dry)
    let heatWant := if run then
        (if p.cyc.phase = .dry ∧ p.cyc.heatBarred = false ∧ report = false
          then (p.cyc.program.map (·.stages)).getD 0 else 0)
      else p.cyc.heatWant
    let laneWant := if run then
        (if p.cyc.phase = .startWait then some (if p.cyc.resumed = true then 0 else 1)
          else if p.cyc.phase = .burstWait then some 2 else none)
      else p.cyc.laneWant
    let wanted := if run then
        decide (p.cyc.phase = .spinup ∨ p.cyc.phase = .dry ∨ p.cyc.phase = .cool ∨ p.cyc.phase = .burst)
      else p.cyc.motorWanted
    let permit := if p.ctl.standing = .active ∧ p.ctl.shed = false then min p.ownHeld heatWant else 0
    let motorStays := wanted = true ∧ p.inp.level.door = false ∧ run
    let gate : Gate := { p.gate with
      startOrder := p.gate.startOrder && wanted
      grace := if hot ∧ p.cyc.phase = .dry then p.gate.grace else 0
      report := report }
    let turned : Gate :=
      if p.gate.motor = true then
        if motorStays then gate
        else if p.gate.pastStart = false then
          { gate with motor := false, startOrder := wanted, watch := .none, rotation := .stopped }
        else { gate with motor := false, motorMinOff := .running 0, watch := .none, rotation := .stopped }
      else if motorStays ∧ p.gate.startOrder = true ∧ p.gate.motorMinOff = .reached then
        { gate with
          motor := true, startOrder := false, watch := .confirming, rotation := .running 0, pastStart := false }
      else gate
    let stage := fun (n : Nat) (g : StageGate) =>
      let stays := n ≤ permit ∧ (turned.motor = true ∧ turned.watch = .running) ∧
        p.inp.level.door = false ∧ p.inp.level.highLimit = false ∧ run
      if g.on = true then
        if stays then g else StageGate.mk false 0 (if g.minOn = 0 then .reached else .running 0) false
      else if stays ∧ ¬ hot ∧ g.minOff = .reached then ⟨true, 0, .reached, false⟩
      else g
    q = { p with
      gate := { turned with heat1 := stage 1 p.gate.heat1, heat2 := stage 2 p.gate.heat2 }
      cyc := { p.cyc with
        heatWant := heatWant
        laneWant := laneWant
        motorWanted := wanted
        starvation := if run ∧ 1 ≤ p.ownHeld then 0 else p.cyc.starvation }
      ctl := { p.ctl with
        permit := permit
        send := { q.ctl.send with
          dark := p.ctl.send.dark && decide (p.ctl.standing = .dark)
          hold := p.ctl.send.hold && decide (p.ctl.standing = .active ∨ p.ctl.standing = .isolated) }
        waitAge := if p.ownHeld < heatWant ∨ laneWant ≠ none then p.ctl.waitAge else 0 } } ∧
    q.settle = q ∧
    (q.gate.motorDrive = true → p.gate.motorDrive = true ∧ q.gate.motor = true) ∧
    (q.gate.heat1.drive = true → p.gate.heat1.drive = true ∧ q.gate.heat1.on = true) ∧
    (q.gate.heat2.drive = true → p.gate.heat2.drive = true ∧ q.gate.heat2.on = true)

/-- R87, R88, R109, R116, R120, R122, R130, R174: a debounced change of each input; a pin at its debounced level changes
nothing else. The INPUT CHANGE notice comes after what the blocks do (log 23), the pin recorded is log 15's, and a stage
energized at this very moment that EXHAUST HOT takes off keeps its min-off elapsed by log 1's reading of R116. A pending
turn-off due when EXHAUST HOT becomes inactive, and an absence timer at 40 ms in RUN when MAINS becomes active, are taken
in either order by log 34's reading of R116. -/
def Obligations.InputChange : Prop :=
  ∀ (s : State) (i : Input) (b : Bool) (p : Part),
    p = { s.toPart with
      pins := { s.pins with level := s.pins.level.with i b }
      inp := ⟨s.inp.level.with i b, s.inp.delta.with i true⟩ } →
    s.works →
    let hot := fun g : StageGate => if g.on = true then
      (if 10000 ≤ g.minOn ∨ g.minOn = 0 then ⟨false, 0, if g.minOn = 0 then .reached else .running 0, false⟩
        else { g with turnOffPending := true }) else g
    let cold := fun g : StageGate => if g.on = true ∧ g.turnOffPending = true ∧ 10000 ≤ g.minOn
      then ⟨false, 0, .running 0, false⟩ else { g with turnOffPending := false }
    (s.inp.level.get i = b → exec (.inputChange i b) s = .next { s with pins := p.pins }) ∧
    (s.inp.level.get i ≠ b →
      (i = .door → b = true → s.sup.power = .run →
        exec (.inputChange i b) s = .next { s with toPart := (Part.settle (p.doorOpened.notifyOwn .inputChange (some 1))) }) ∧
      (i = .door → b = true →
        s.sup.power = .ride ∨ (s.sup.warm = true ∧ (s.sup.power = .settle ∨ s.sup.power = .qualify)) →
        exec (.inputChange i b) s = .next { s with toPart := (Part.settle
          (Part.notifyOwn { p with sup := { p.sup with doorLatch := true } } .inputChange (some 1))) }) ∧
      (i = .door → b = true → s.sup.warm = false → s.sup.power = .settle ∨ s.sup.power = .qualify →
        exec (.inputChange i b) s = .next { s with toPart := (Part.settle (p.notifyOwn .inputChange (some 1))) }) ∧
      (i = .door → b = false →
        exec (.inputChange i b) s = .next { s with toPart := (Part.settle (p.notifyOwn .inputChange (some 17))) }) ∧
      (i = .highLimit → b = true → s.sup.power = .run →
        exec (.inputChange i b) s =
          .next { s with toPart := (Part.settle (p.highLimitTripped.notifyOwn .inputChange (some 4))) }) ∧
      (i = .highLimit → b = true → s.sup.power ≠ .run →
        exec (.inputChange i b) s = .next { s with toPart := (Part.settle (p.notifyOwn .inputChange (some 4))) }) ∧
      (i = .highLimit → b = false →
        exec (.inputChange i b) s = .next { s with toPart := (Part.settle (p.notifyOwn .inputChange (some 20))) }) ∧
      (i = .exhaustHot → b = true →
        exec (.inputChange i b) s = .next { s with toPart := (Part.settle { p with
          gate := { p.gate with heat1 := hot p.gate.heat1, heat2 := hot p.gate.heat2 } }) }) ∧
      (i = .exhaustHot → b = false →
        exec (.inputChange i b) s = .next { s with toPart := (Part.settle { p with
          gate := { p.gate with heat1 := cold p.gate.heat1, heat2 := cold p.gate.heat2 } }) }) ∧
      (i = .mains → s.sup.power = .run → ∀ n, s.sup.absence = .running n → 40 ≤ n →
        exec (.inputChange i b) s = .next { s with toPart := (Part.settle
          (p.notifyOwn .inputChange (some (if b = true then 8 else 24)))) }) ∧
      (i = .mains → s.sup.power = .run → (∀ n, s.sup.absence = .running n → n < 40) →
        exec (.inputChange i b) s = .next { s with toPart := (Part.settle (Part.notifyOwn { p with sup := { p.sup with
          absence := if b = true then .stopped else .running 0 } } .inputChange (some (if b = true then 8 else 24)))) }) ∧
      (i = .mains → s.sup.power = .qualify →
        exec (.inputChange i b) s = .next { s with toPart := (Part.settle (Part.notifyOwn { p with sup := { p.sup with
          absence := if b = true then .stopped else .running 0
          qualification := if b = true then .running 0 else .stopped } }
          .inputChange (some (if b = true then 8 else 24)))) }) ∧
      (i = .mains → s.sup.power = .ride ∨ s.sup.power = .settle →
        exec (.inputChange i b) s = .next { s with toPart := (Part.settle
          (p.notifyOwn .inputChange (some (if b = true then 8 else 24)))) }))

/-- R107, R109, R110, R113: a min-off elapsed, a min-on reached with a turn-off pending, the thermostat grace run out. -/
def Obligations.GateTimers : Prop :=
  ∀ (s : State) (n : Nat), s.works →
    (s.gate.heat1.minOff = .running n → 10000 ≤ n → exec (.heatMinOffElapsed .one) s = .next { s with toPart :=
      (Part.settle { s.toPart with gate := { s.gate with heat1 := { s.gate.heat1 with minOff := .reached } } }) }) ∧
    (s.gate.heat2.minOff = .running n → 10000 ≤ n → exec (.heatMinOffElapsed .two) s = .next { s with toPart :=
      (Part.settle { s.toPart with gate := { s.gate with heat2 := { s.gate.heat2 with minOff := .reached } } }) }) ∧
    (s.gate.motorMinOff = .running n → 5000 ≤ n → exec .motorMinOffElapsed s = .next { s with toPart :=
      (Part.settle { s.toPart with gate := { s.gate with motorMinOff := .reached } }) }) ∧
    (s.gate.heat1.on = true → s.gate.heat1.turnOffPending = true → 10000 ≤ s.gate.heat1.minOn →
      exec (.heatMinOnReached .one) s = .next { s with toPart := (Part.settle { s.toPart with gate := { s.gate with
        heat1 := if s.inp.level.exhaustHot = true then ⟨false, 0, .running 0, false⟩
          else { s.gate.heat1 with minOn := 10000, turnOffPending := false } } }) }) ∧
    (s.gate.heat2.on = true → s.gate.heat2.turnOffPending = true → 10000 ≤ s.gate.heat2.minOn →
      exec (.heatMinOnReached .two) s = .next { s with toPart := (Part.settle { s.toPart with gate := { s.gate with
        heat2 := if s.inp.level.exhaustHot = true then ⟨false, 0, .running 0, false⟩
          else { s.gate.heat2 with minOn := 10000, turnOffPending := false } } }) }) ∧
    (s.inp.level.exhaustHot = true → s.cyc.phase = .dry → 1 ≤ s.ownHeld → s.gate.report = false →
      30000 ≤ s.gate.grace →
      exec .thermostatGraceExpiry s = .next { s with toPart :=
        (Part.settle { s.toPart with gate := { s.gate with grace := 30000, report := true } }) })

/-- R76, R84 to R86, R97, R100, R114, R115: a TACH pulse, a start without rotation and rotation lost; a burst whose last
second is over halts with burst remaining 0, and a pulse taken first leaves nothing to report. -/
def Obligations.Rotation : Prop :=
  ∀ (s : State) (on off : Part) (n : Nat), s.works →
    on = { s.toPart with gate := { s.gate with watch := .running, rotation := .running 0 } } →
    off = { s.toPart with gate := { s.gate with
      motor := false, motorMinOff := .running 0, watch := .none, rotation := .stopped } } →
    let expired := s.gate.rotation = .running n ∧ 3000 ≤ n
    let halted : Cycle := { s.cyc with
      target := .none
      burst := if s.cyc.burst.seconds = 1 ∧ 1000 ≤ s.cyc.burst.part then ⟨0, 0⟩ else s.cyc.burst }
    (s.gate.watch = .none → exec .tachPulse s = .next s) ∧
    (s.gate.watch = .running → exec .tachPulse s = .next { s with gate := { s.gate with rotation := .running 0 } }) ∧
    (s.gate.watch = .confirming → s.sup.power = .run → s.cyc.phase = .spinup → s.cyc.target = .dry →
      exec .tachPulse s = .next { s with toPart := (Part.settle (Part.changePhase { on with cyc := { s.cyc with
        target := .none, starvation := 0, starvationReported := false, credit := 0 } } .dry)) }) ∧
    (s.gate.watch = .confirming → s.sup.power = .run → s.cyc.phase = .spinup → s.cyc.target = .cool →
      exec .tachPulse s = .next { s with toPart := (Part.settle (Part.changePhase { on with cyc := { s.cyc with
        target := .none, cool := ⟨s.cyc.cool.seconds, 0⟩ } } .cool)) }) ∧
    (s.gate.watch = .confirming → s.cyc.phase ≠ .spinup → exec .tachPulse s = .next { s with toPart := on.settle }) ∧
    (s.gate.watch = .confirming → expired → s.sup.power = .run → s.cyc.phase = .spinup ∨ s.cyc.phase = .burst →
      exec .noRotation s = .next { s with toPart := (Part.settle (Part.changePhase
        { off.notifyFault .noRotation with cyc := halted } .halted)) }) ∧
    (s.gate.watch = .confirming → expired → s.cyc.phase ≠ .spinup → s.cyc.phase ≠ .burst →
      exec .noRotation s = .next { s with toPart := off.settle }) ∧
    (s.gate.watch = .running → expired → s.sup.power = .run →
      s.cyc.phase = .dry ∨ s.cyc.phase = .cool ∨ s.cyc.phase = .burst →
      exec .rotationLost s = .next { s with toPart := (Part.settle (Part.changePhase
        { off.notifyFault .rotationLost with cyc := halted } .halted)) }) ∧
    (s.gate.watch = .running → expired → s.cyc.phase ≠ .dry → s.cyc.phase ≠ .cool → s.cyc.phase ≠ .burst →
      exec .rotationLost s = .next { s with toPart := off.settle }) ∧
    (s.gate.rotation = .running n → n < 3000 → exec .noRotation s = .next s ∧ exec .rotationLost s = .next s)

/-! ## Mains loss and return (07, 09) -/

/-- R118 to R121, R126 to R128, R130, R131: from power to QUALIFY and RUN, the drop, the collapse and the return; STANDBY
entered with MAINS or BACKUP LOW active is left at once, with both for OFF (log 16), and a return that finds OFF applies
VDD (log 37). R24: the station the straps select. On entry to STANDBY every block but the supply monitor loses its state,
the journal all but its slots; in OFF and STANDBY the lost blocks hold their start values (log 8);
what the commands record of the pins, and the return's MAINS and straps over the pins recorded, are log 15's choice. -/
def Obligations.PowerSequence : Prop :=
  ∀ (s : State) (straps : BitVec 4) (n : Nat),
    let present : Pins := { s.pins with level := { s.pins.level with mains := true }, straps := straps }
    let down : Part := { s.toPart.lose with sup := { Supply.cold with
      power := .standby
      settle := .stopped
      outage := s.sup.outage
      outagePart := s.sup.outagePart
      outageRunning := s.sup.outageRunning
      doorLatch := s.sup.doorLatch || s.pins.level.door
      warm := s.sup.warm } }
    (s.toPart.lose = { s.toPart with
      line := LineUnit.start
      roster := Roster.start
      ctl := Controller.start
      cyc := Cycle.start
      gate := Gate.start
      jrn := { Journal.start s.jrn.slotA s.jrn.slotB with startRead := false }
      port := Port.start
      ntc := NoticeQueue.start
      inp := ⟨⟨false, false, false, false⟩, ⟨false, false, false, false⟩⟩
      res := Resume.start s.res.path }) ∧
    stationNumber (stationOfStraps straps) = (if straps = 0 then 16 else straps.toNat) ∧
    (s.sup.power = .settle → s.sup.settle = .running n → (if s.sup.warm = true then 64 else 500) ≤ n →
      exec .settleExpiry s = .next { s with sup := { s.sup with
      power := .qualify
      settle := .stopped
      qualification := if s.inp.level.mains = true then .running 0 else .stopped
      absence := if s.inp.level.mains = true then .stopped else .running 0 } }) ∧
    (s.sup.power = .qualify → s.sup.qualification = .running n → 2000 ≤ n →
      ∃ t : State, exec .endOfQualification s = .next t ∧ t.sup = { s.sup with
        power := .run
        outageRunning := false
        doorLatch := false
        warm := false
        qualification := .stopped
        absence := .stopped } ∧ t.res.decided = true ∧ t.pins = s.pins ∧ t.inp = s.inp ∧ t.pending = s.pending) ∧
    (s.sup.power = .qualify → s.sup.absence = .running n → 40 ≤ n →
      (s.pins.backupLow = false → s.pins.level.mains = false →
        exec .qualifyDrop s = .next { s with toPart := down }) ∧
      (s.pins.backupLow = false → s.pins.level.mains = true →
        exec .qualifyDrop s = exec (.standbyMainsReturn s.pins.straps) { s with toPart := down }) ∧
      (s.pins.backupLow = true →
        exec .qualifyDrop s = exec (.backupCollapse true) { s with toPart := down })) ∧
    (s.sup.power = .off → ∃ t : State, exec (.powerApplied straps) s = .next t ∧ t.sup = Supply.cold ∧
      t.res = Resume.start .power ∧ t.station = stationOfStraps straps ∧ t.pins = present ∧
      t.inp = ⟨present.level, present.level⟩ ∧ t.jrn = Journal.start s.jrn.slotA s.jrn.slotB ∧
      t.line = LineUnit.start ∧ t.roster = Roster.start ∧ t.ctl = Controller.start ∧ t.cyc = Cycle.start ∧
      t.gate = Gate.start ∧ t.port = Port.start ∧ t.ntc = NoticeQueue.start ∧ t.pending = s.pending) ∧
    (s.sup.power = .standby → ∃ t : State, exec (.standbyMainsReturn straps) s = .next t ∧
      t.sup = { Supply.cold with
        outage := if s.sup.warm = true then s.sup.outage else none
        outagePart := if s.sup.warm = true then s.sup.outagePart else 0
        outageRunning := s.sup.warm && s.sup.outageRunning
        doorLatch := s.sup.warm && (s.sup.doorLatch || s.pins.level.door)
        warm := s.sup.warm } ∧
      t.res = Resume.start (if s.sup.warm = true then .ret else .power) ∧ t.station = stationOfStraps straps ∧
      t.pins = present ∧ t.inp = ⟨present.level, present.level⟩ ∧
      t.jrn = Journal.start s.jrn.slotA s.jrn.slotB ∧ t.line = LineUnit.start ∧ t.roster = Roster.start ∧
      t.ctl = Controller.start ∧ t.cyc = Cycle.start ∧ t.gate = Gate.start ∧ t.port = Port.start ∧
      t.ntc = NoticeQueue.start ∧ t.pending = s.pending) ∧
    (s.sup.power = .ride ∨ (s.sup.warm = true ∧ (s.sup.power = .settle ∨ s.sup.power = .qualify)) →
      exec .doorLatchSet s = .next { s with sup := { s.sup with doorLatch := true } }) ∧
    (s.sup.power = .standby → exec .doorLatchSet s = .next { s with
      sup := { s.sup with doorLatch := true }
      pins := { s.pins with level := { s.pins.level with door := true } } }) ∧
    (s.sup.power = .ride ∨ s.sup.power = .standby → ∃ t : State, exec (.backupCollapse true) s = .next t ∧
      t.sup = { Supply.cold with power := .off, settle := .stopped } ∧ t.gate = Gate.start ∧ t.cyc = Cycle.start ∧
      t.ctl = Controller.start ∧ t.roster = Roster.start ∧ t.line = LineUnit.start ∧ t.ntc = NoticeQueue.start ∧
      t.port = Port.start ∧ t.jrn.operation = none ∧ t.pending = s.pending ∧
      t.pins = { s.pins with backupLow := true } ∧ t.station = s.station ∧ t.res = Resume.start s.res.path ∧
      t.inp = ⟨⟨false, false, false, false⟩, ⟨false, false, false, false⟩⟩ ∧
      t.jrn = { Journal.start t.jrn.slotA t.jrn.slotB with startRead := false } ∧
      (s.jrn.operation = none → t.jrn.slotA = s.jrn.slotA ∧ t.jrn.slotB = s.jrn.slotB) ∧
      (∀ r, s.jrn.operation = some (.write .a r) ∨ s.jrn.operation = some (.erase .a) →
        t.jrn.slotA = .torn ∧ t.jrn.slotB = s.jrn.slotB) ∧
      (∀ r, s.jrn.operation = some (.write .b r) ∨ s.jrn.operation = some (.erase .b) →
        t.jrn.slotA = s.jrn.slotA ∧ t.jrn.slotB = .torn)) ∧
    (s.sup.power ≠ .ride → s.sup.power ≠ .standby →
      exec (.backupCollapse true) s = .next { s with pins := { s.pins with backupLow := true } }) ∧
    exec (.backupCollapse false) s = .next { s with pins := { s.pins with backupLow := false } } ∧
    (s.sup.power = .off → exec (.standbyMainsReturn straps) s = exec (.powerApplied straps) s)

/-- R24, R28, R71, R118, R128, R134, R163, R171: in OFF and STANDBY no other command changes anything. A pin that
changes there is recorded; in STANDBY, DOOR active sets the latch and MAINS active is the return (log 15). -/
def Obligations.OffAndStandbyTakeNothingElse : Prop :=
  ∀ (s : State), s.sup.power = .off ∨ s.sup.power = .standby →
    (∀ i : Instr, (∀ x b, i ≠ .inputChange x b) → i ≠ .doorLatchSet → (∀ b, i ≠ .backupCollapse b) →
      (∀ k, i ≠ .powerApplied k) → (∀ k, i ≠ .standbyMainsReturn k) → exec i s = .next s) ∧
    ∀ (x : Input) (b : Bool) (t : State), t = { s with pins := { s.pins with level := s.pins.level.with x b } } →
      (s.sup.power = .off ∨ b = false ∨ x = .exhaustHot ∨ x = .highLimit → exec (.inputChange x b) s = .next t) ∧
      (s.sup.power = .standby → x = .door → b = true →
        exec (.inputChange x b) s = .next { t with sup := { t.sup with doorLatch := true } }) ∧
      (s.sup.power = .standby → x = .mains → b = true →
        exec (.inputChange x b) s = exec (.standbyMainsReturn s.pins.straps) s)

/-- R58, R90, R123, R125 to R127, R131, R139, R169: the declaration, the ride timer and the end of RIDE, which waits for an
own frame in flight (one interfered with while it is in its slot, or until its slot ends, and the DARK in its slot when the
timer's 200 ms come first, are log 22); STANDBY entered with
MAINS or BACKUP LOW active is left at once, with both for OFF (log 16); its lost blocks hold their start values (log 8). -/
def Obligations.DeclarationAndRide : Prop :=
  (∀ (s : State) (n : Nat), s.sup.power = .run → s.sup.absence = .running n → 40 ≤ n →
    let ride : Supply := { s.sup with
      power := .ride
      finalWanted := s.ctl.config.isSome || !decide s.jrn.quiet
      outage := some 0
      outagePart := 0
      outageRunning := true
      doorLatch := s.inp.level.door
      ride := .running 0
      absence := .stopped
      darkSent := false
      rideHeld := false }
    (s.pins.backupLow = false → ∃ t : State, exec .mainsDeclaredAbsent s = .next t ∧
      t.sup = ride ∧
      t.gate.heat1.on = false ∧ t.gate.heat2.on = false ∧ t.gate.motor = false ∧ t.cyc = s.cyc ∧
      t.ctl.standing = (if s.ctl.standing = .barred then .barred else .dark) ∧
      (s.ctl.standing ≠ .barred → t.ctl.send = ⟨true, false, false, false, false⟩) ∧
      t.ntc = (if s.ctl.standing = .barred then s.ntc
        else s.ntc.arrive (triggerOf s.ctl.config) ⟨.standing, s.station, s.cyc.phase, some 6⟩) ∧
      t.jrn = s.toPart.requestCheckpoint.jrn ∧
      t.port = (if s.port.held = some .stationReset then ⟨.replyReady, none, [1], s.port.sdo⟩ else s.port) ∧
      t.line = s.line ∧ t.roster = s.roster ∧ t.inp = s.inp ∧ t.pins = s.pins ∧ t.res = s.res ∧
      t.station = s.station ∧ t.pending = s.pending) ∧
    (s.pins.backupLow = false → ∀ d : Part,
      d = { s.toPart with
        sup := ride
        port := if s.port.held = some .stationReset then ⟨.replyReady, none, [1], s.port.sdo⟩ else s.port } →
      exec .mainsDeclaredAbsent s = .next { s with toPart := Part.settle (Part.requestCheckpoint
        (if s.ctl.standing = .barred then d else d.changeStanding .dark)) }) ∧
    (s.pins.backupLow = true → ∃ t : State, exec .mainsDeclaredAbsent s = .next t ∧ t.sup.power = .off)) ∧
  (∀ (s : State) (n : Nat), s.sup.power = .ride → s.sup.ride = .running n → 200 ≤ n →
    exec .rideTimerExpiry s = .next { s with toPart :=
      (Part.rideCheck { s.toPart with sup := { s.sup with ride := .reached } }) }) ∧
  ∀ s : State, s.sup.power = .ride →
    let down : Part := { s.toPart.lose with sup := { Supply.cold with
      power := .standby
      settle := .stopped
      outage := s.sup.outage
      outagePart := s.sup.outagePart
      outageRunning := s.sup.outageRunning
      doorLatch := s.sup.doorLatch || s.pins.level.door
      warm := true } }
    let inFlight := (s.line.role = .sender ∧
        (s.line.state = .arbitrating ∨ s.line.state = .sending ∨ s.line.state = .verdict)) ∨
      (s.line.role = .interfered ∧ s.line.state = .verdict)
    let unfinished := s.sup.rideHeld = true ∧ (s.line.role = .interfered ∨ s.line.role = .payloadLost)
    (s.sup.finalWanted = true ∨ (s.sup.darkSent = false ∧ s.sup.ride ≠ .reached) → s.rideCheck = s.toPart) ∧
    (s.sup.finalWanted = false → s.sup.darkSent = true ∨ s.sup.ride = .reached →
      (inFlight → s.rideCheck = { s.toPart with sup := { s.sup with rideHeld := true } }) ∧
      (¬ inFlight → unfinished → s.rideCheck = s.toPart) ∧
      (¬ inFlight → ¬ unfinished →
        (s.pins.backupLow = false → s.pins.level.mains = false → s.rideCheck = down) ∧
        (s.pins.backupLow = false → s.pins.level.mains = true →
          exec (.standbyMainsReturn s.pins.straps) { s with toPart := down } =
            .next { s with toPart := s.rideCheck }) ∧
        (s.pins.backupLow = true →
          exec (.backupCollapse true) { s with toPart := down } = .next { s with toPart := s.rideCheck })))

/-- R120, R133, R141, R142, R146 to R151, R158 to R160, R168: the end of qualification, the start read with the READ
CHECKPOINT held for it, the record it chooses, and the decision: last outage, configuration and standing, the cycle placed, the RESUME
and CYCLE END notices, the checkpoint request, and DOOR and HIGH LIMIT as they stand then. A start read still unfinished is
finished first (log 19). -/
def Obligations.ResumeDecision : Prop :=
  (∀ (s : State) (n : Nat), s.sup.power = .qualify → s.sup.qualification = .running n → 2000 ≤ n →
    exec .endOfQualification s = .next { s with toPart := (Part.settle (Part.resumeDecision
      { (if s.jrn.startRead = true then s.toPart.finishStartRead else s.toPart) with sup := { s.sup with
        power := .run
        outageRunning := false
        doorLatch := false
        warm := false
        qualification := .stopped
        absence := .stopped } }
      (if s.res.path = .ret then s.sup.outage else none) (decide (s.res.path = .ret) && s.sup.doorLatch))) }) ∧
  (∀ s : State, s.works → s.jrn.startRead = true →
    (s.res.path ≠ .stationReset → exec .startReadComplete s = .next { s with toPart := s.toPart.finishStartRead }) ∧
    (s.res.path = .stationReset → s.sup.power = .run → exec .startReadComplete s =
      .next { s with toPart := (Part.settle (s.toPart.finishStartRead.resumeDecision none false)) })) ∧
  (∀ p : Part, ∃ k : Nat, k = p.jrn.slotA.isTorn.toNat + p.jrn.slotB.isTorn.toNat ∧
    p.finishStartRead = { p with
      port := if p.port.held = some .readCheckpoint
        then ⟨.replyReady, none, 0 :: p.finishStartRead.jrn.checkpointBytes, p.port.sdo⟩ else p.port
      jrn := { p.jrn with
        newest := (p.jrn.chosen p.station).map (·.1)
        newestSequence := (p.jrn.chosen p.station).map (·.2.sequence)
        tornA := p.jrn.slotA.isTorn
        tornB := p.jrn.slotB.isTorn
        startRead := false
        elapsed := 0 }
      ntc := if k = 0 then p.ntc
        else p.ntc.arrive (triggerOf p.ctl.config) ⟨.tornSlot, p.station, .idle, some k⟩ }) ∧
  (∀ (x : Slot) (own : Station) (r : Record),
    (r.inRange ↔
      ((1 ≤ r.config.budget ∧ r.config.budget ≤ 32) ∧ (2 ≤ r.config.spacing ∧ r.config.spacing ≤ 10) ∧
        r.config.reheat ≤ 15 ∧ (1 ≤ r.config.limit ∧ r.config.limit ≤ 8) ∧
        (r.config.trigger = 1 ∨ r.config.trigger = 2 ∨ r.config.trigger = 4 ∨ r.config.trigger = 8)) ∧
      (∀ g, r.program = some g → (1 ≤ g.dryTime ∧ g.dryTime ≤ 240) ∧ (1 ≤ g.stages ∧ g.stages ≤ 2) ∧
        g.coolTime ≤ 30 ∧ g.window ≤ 720 ∧ (5 ≤ g.burst ∧ g.burst ≤ 60) ∧ (1 ≤ g.rest ∧ g.rest ≤ 30)) ∧
      r.remainingDry ≤ 14400 ∧ r.remainingCool ≤ 1800 ∧ r.windowRemaining ≤ 43200 ∧ r.restRemaining ≤ 1800 ∧
      r.burstRemaining ≤ 60 ∧ r.resumeCount ≤ 8) ∧
    (x.validRecord own = some r ↔
      x = .record r ∧ r.check = Config.checkpointCheck r.bytes ∧ r.inRange ∧ r.station = own) ∧
    (x.isTorn = true ↔
      x = .torn ∨ ∃ y, x = .record y ∧ ¬ (y.check = Config.checkpointCheck y.bytes ∧ y.inRange))) ∧
  (∀ x y : BitVec 32, sequenceNewer x y = true ↔ 1 ≤ (x - y).toNat ∧ (x - y).toNat ≤ 2147483647) ∧
  (∀ (j : Journal) (own : Station), j.chosen own =
    match j.slotA.validRecord own, j.slotB.validRecord own with
    | some a, some b => if sequenceNewer b.sequence a.sequence = true then some (.b, b) else some (.a, a)
    | some a, none => some (.a, a)
    | none, some b => some (.b, b)
    | none, none => none) ∧
  (∀ j : Journal, (∀ r, j.newestRecord = some r ↔ ∃ n, j.newest = some n ∧ j.slot n = .record r)) ∧
  (outageOf none = .unknown ∧ ∀ t, outageOf (some t) = .seconds t) ∧
  ∀ (p : Part) (outage : Option Nat) (latch : Bool),
    let inputs := fun x : Part =>
      let y := if x.inp.level.door = true then x.doorOpened else x
      if y.inp.level.highLimit = true then y.highLimitTripped else y
    let res : Resume := { p.res with
      decided := true, lastOutage := outageOf outage, lastClass := some (classOf outage) }
    (p.jrn.newestRecord = none → p.resumeDecision outage latch = inputs (Part.requestCheckpoint { p with
      res := res
      ntc := p.ntc.arrive (triggerOf p.ctl.config)
        ⟨.resume, p.station, p.cyc.phase, some (outage.getD 65535)⟩ })) ∧
    ∀ r, p.jrn.newestRecord = some r → ∀ c t u v : Part,
      c = Part.setConfig { p with res := res } (some r.config) →
      t = (if c.ctl.standing = .unconfigured then { c with ctl := (c.changeStanding .listening).ctl } else c) →
      u = { t with
        cyc := Cycle.placed r (r.place outage latch p.freeCount)
        ntc := t.ntc.arrive r.config.trigger ⟨.resume, p.station,
          (Cycle.placed r (r.place outage latch p.freeCount)).phase, some (outage.getD 65535)⟩
        freeCount := p.freeCount + 2 } →
      v = (match r.place outage latch p.freeCount with
        | .ended o => { u with ntc := u.ntc.arrive r.config.trigger ⟨.cycleEnd, p.station, r.phase, some o.code⟩ }
        | _ => u) →
      p.resumeDecision outage latch = inputs v.requestCheckpoint ∧
      (p.jrn.operation = none → v.requestCheckpoint = v.beginWrite r.config) ∧
      v.ctl.config = some r.config ∧ (p.ctl.standing = .unconfigured → v.ctl.standing = .listening) ∧
      (p.ctl.standing = .unconfigured → v.ctl.listen = .running 0) ∧
      (p.ctl.standing ≠ .unconfigured → v.ctl.standing = p.ctl.standing) ∧
      v.line = p.line ∧ v.roster = p.roster ∧ v.gate = p.gate ∧ v.sup = p.sup ∧ v.port = p.port ∧
      v.inp = p.inp ∧ v.pins = p.pins ∧ v.station = p.station ∧ v.jrn = p.jrn

/-- R149, R152 to R158: what the decision does with the cycle, by the phase the record shows, and the cycle engine it
leaves. Remaining dry and remaining cool after R155 are the model's free values (log 11) and are not stated. -/
def Obligations.Placements : Prop :=
  ∀ (r : Record) (outage : Option Nat) (latch : Bool) (count : Nat),
    let drying := r.phase = .dry ∨ ((r.phase = .startWait ∨ r.phase = .spinup) ∧ r.target = .dry)
    let cooling := r.phase = .cool ∨ ((r.phase = .startWait ∨ r.phase = .spinup) ∧ r.target = .cool)
    let tumbling := r.phase = .rest ∨ r.phase = .burstWait ∨ r.phase = .burst
    let done := if r.heatBarred = true then CycleOutcome.faulted else .completed
    let left := fun x => if classOf outage = .long then 0 else x - outage.getD 0
    let window := if classOf outage = .long then 0
      else (Program.shown r.program).window * 60 - (outage.getD 0 - r.remainingCool)
    (∀ t, classOf (some t) = if t ≤ 600 then .short else if t ≤ 5400 then .medium else .long) ∧
    classOf none = .long ∧
    (r.phase = .idle → r.place outage latch count = .asRecorded) ∧
    (drying → r.place outage latch count =
      if latch = true then .ended .abandoned
      else if r.config.limit ≤ r.resumeCount ∨ classOf outage = .long then .ended .declined
      else if classOf outage = .short then .continued .startWait .dry r.remainingDry 0 0
      else .continued .startWait .dry
        (min (r.remainingDry + r.config.reheat * 60) ((Program.shown r.program).dryTime * 60)) 0 0) ∧
    (cooling → r.place outage latch count =
      if latch = true then .ended .collected
      else if 0 < left r.remainingCool then
        (if r.config.limit ≤ r.resumeCount then .ended .declined
        else .continued .startWait .cool r.remainingDry (left r.remainingCool) 0)
      else if (Program.shown r.program).window = 0 ∨ window = 0 then .ended done
      else if r.config.limit ≤ r.resumeCount then .ended .declined
      else .continued .burstWait .none r.remainingDry 0 window) ∧
    (tumbling → latch = true → r.place outage latch count = .ended .collected) ∧
    (tumbling → latch = false → left r.windowRemaining = 0 → r.place outage latch count = .ended done) ∧
    (tumbling → latch = false → 0 < left r.windowRemaining → r.config.limit ≤ r.resumeCount →
      r.place outage latch count = .ended .declined) ∧
    (tumbling → latch = false → 0 < left r.windowRemaining → r.resumeCount < r.config.limit →
      ∃ dry cool, r.place outage latch count = .continued .burstWait .none dry cool (left r.windowRemaining)) ∧
    (r.phase = .halted → r.place outage latch count = if latch = true then .ended .faulted else .asRecorded) ∧
    (r.phase = .idle → Cycle.placed r .asRecorded = { Cycle.start with
      program := r.program
      resumed := r.resumed
      heatBarred := r.heatBarred
      highLimitSeen := r.highLimitSeen
      resumeCount := r.resumeCount
      outcome := r.outcome }) ∧
    (r.phase = .halted → Cycle.placed r .asRecorded = { Cycle.start with
      phase := .halted
      program := r.program
      remainingDry := r.remainingDry
      cool := ⟨r.remainingCool, 0⟩
      window := ⟨r.windowRemaining, 0⟩
      rest := ⟨r.restRemaining, 0⟩
      burst := ⟨r.burstRemaining, 0⟩
      resumed := r.resumed
      heatBarred := r.heatBarred
      highLimitSeen := r.highLimitSeen
      resumeCount := r.resumeCount
      outcome := r.outcome }) ∧
    (∀ o, Cycle.placed r (.ended o) = { Cycle.start with
      program := r.program
      resumed := r.resumed
      heatBarred := r.heatBarred
      highLimitSeen := r.highLimitSeen
      resumeCount := r.resumeCount
      outcome := o }) ∧
    (∀ phase target dry cool window, Cycle.placed r (.continued phase target dry cool window) = { Cycle.start with
      phase := phase
      target := target
      program := r.program
      remainingDry := dry
      cool := ⟨cool, 0⟩
      window := ⟨window, 0⟩
      resumed := true
      heatBarred := r.heatBarred
      highLimitSeen := r.highLimitSeen
      resumeCount := r.resumeCount + 1
      outcome := r.outcome })

/-! ## The checkpoint journal (08) -/

/-- R132, R135, R136: a request: without a configuration it is not taken; with the journal IDLE a write begins; else one
write is pending. Each write goes to the slot that is not the newest, with the sequence that follows, and records the
state of the moment it begins. The check is the model's opaque function of the record's bytes (log 10). -/
def Obligations.CheckpointRequest : Prop :=
  ∀ (p : Part) (c : Configuration) (r : Record),
    (p.ctl.config = none → p.requestCheckpoint = p) ∧
    (p.ctl.config = some c → p.jrn.operation ≠ none →
      p.requestCheckpoint = { p with jrn := { p.jrn with pendingWrite := true } }) ∧
    (p.ctl.config = some c → p.jrn.operation = none → p.requestCheckpoint = p.beginWrite c) ∧
    (r = {
        sequence := match p.jrn.newestSequence with
          | none => 1
          | some q => q + 1
        station := p.station
        config := c
        phase := p.cyc.phase
        target := p.cyc.target
        program := p.cyc.program
        remainingDry := p.cyc.remainingDry
        remainingCool := p.cyc.cool.seconds
        windowRemaining := p.cyc.window.seconds
        restRemaining := p.cyc.rest.seconds
        burstRemaining := p.cyc.burst.seconds
        resumeCount := p.cyc.resumeCount
        resumed := p.cyc.resumed
        heatBarred := p.cyc.heatBarred
        highLimitSeen := p.cyc.highLimitSeen
        outcome := p.cyc.outcome
        check := r.check } → r.check = Config.checkpointCheck r.bytes →
      p.beginWrite c = { p with jrn := { p.jrn with
        operation := some (.write
          (match p.jrn.newest with
            | none => .a
            | some .a => .b
            | some .b => .a) r)
        elapsed := 0 } })

/-- R123, R125, R134, R137, R138, R141, R145, R163, R169, R173: the completion of a write, of an erase and of the start read,
what the journal's QUIET does, and the aged timer. -/
def Obligations.JournalCompletions : Prop :=
  (∀ (s : State) (n : SlotName) (r : Record) (c : Configuration), s.works →
    s.jrn.operation = some (.write n r) →
    let good : Journal := { (s.jrn.withSlot n (.record r)).withTorn n false with
      newest := some n, newestSequence := some r.sequence, retry := false }
    let bad : Journal := (s.jrn.withSlot n .torn).withTorn n true
    let told := s.ntc.arrive (triggerOf s.ctl.config) ⟨.tornSlot, s.station, s.cyc.phase, some bad.tornCount⟩
    (r.checkAgrees → r.inRange → r.station = s.station → s.jrn.pendingWrite = false →
      exec (.writeCompletion true) s = .next { s with toPart :=
        (Part.onQuiet { s.toPart with jrn := { good with operation := none, elapsed := 0 } }) }) ∧
    (r.checkAgrees → r.inRange → r.station = s.station → s.jrn.pendingWrite = true → s.ctl.config = some c →
      exec (.writeCompletion true) s = .next { s with toPart :=
        (Part.beginWrite { s.toPart with jrn := { good with pendingWrite := false } } c) }) ∧
    (s.jrn.retry = true → s.jrn.pendingWrite = false →
      exec (.writeCompletion false) s = .next { s with toPart := (Part.onQuiet { s.toPart with
        jrn := { bad with retry := false, operation := none, elapsed := 0 }, ntc := told }) }) ∧
    (s.jrn.retry = true → s.jrn.pendingWrite = true → s.ctl.config = some c →
      exec (.writeCompletion false) s = .next { s with toPart := (Part.beginWrite { s.toPart with
        jrn := { bad with retry := false, pendingWrite := false }, ntc := told } c) }) ∧
    (s.jrn.retry = false → s.ctl.config = some c →
      exec (.writeCompletion false) s = .next { s with toPart :=
        (Part.beginWrite { s.toPart with jrn := { bad with retry := true, pendingWrite := false }, ntc := told } c) })) ∧
  (∀ p : Part, ∀ q : Part, q = { p with sup := { p.sup with finalWanted := false } } →
    (p.port.held = some .stationReset → p.sup.power = .run → p.onQuiet = q.executeStationReset) ∧
    (p.port.held ≠ some .stationReset ∨ p.sup.power ≠ .run → p.onQuiet = q.rideCheck)) ∧
  ∀ (s : State) (n : Nat), s.works →
    (s.jrn.operation = some (.erase .a) → exec .eraseCompletion s = .next { s with jrn := { s.jrn with
      slotA := .erased, operation := some (.erase .b), eraseQueued := false, elapsed := 0 } }) ∧
    (s.jrn.operation = some (.erase .b) → exec .eraseCompletion s = .next { s with toPart := (Part.onQuiet { s.toPart with
      jrn := { s.jrn with slotB := .erased, operation := none, elapsed := 0 }
      port := if s.port.held = some .clear then ⟨.replyReady, none, [0], s.port.sdo⟩ else s.port }) }) ∧
    (s.ntc.aged = .running n → 2000 ≤ n →
      exec .agedTimerExpiry s = .next { s with ntc := { s.ntc with attn := true, aged := .stopped } }) ∧
    (s.ntc.aged = .running n → n < 2000 → exec .agedTimerExpiry s = .next s) ∧
    (s.jrn.startRead = true → ∃ t : State, exec .startReadComplete s = .next t ∧ t.jrn.startRead = false ∧
      t.jrn.newest = (s.jrn.chosen s.station).map (·.1) ∧
      t.jrn.newestSequence = (s.jrn.chosen s.station).map (·.2.sequence) ∧
      t.jrn.tornA = s.jrn.slotA.isTorn ∧ t.jrn.tornB = s.jrn.slotB.isTorn ∧
      t.jrn.slotA = s.jrn.slotA ∧ t.jrn.slotB = s.jrn.slotB ∧ t.line = s.line ∧ t.roster = s.roster ∧
      t.sup = s.sup ∧ t.inp = s.inp ∧ t.pins = s.pins ∧ t.station = s.station ∧ t.pending = s.pending)

/-! ## Invariants -/

/-- R24, R28, R71, R106, R117, R118, R134, R146, R163, R171, R175, Table 9-1: the state after reset is the start of the
POWER path, block by block with the value of every field, and every invariant below holds in it. The pins, the straps, the
empty slots, what the journal knows of them before the start read and the bytes on SDO are the model's choice (log 6, log 7,
log 8, log 14). -/
def Obligations.StartState : Prop :=
  State.reset.sup = Supply.cold ∧ State.reset.ctl = Controller.start ∧ State.reset.cyc = Cycle.start ∧
    State.reset.gate = Gate.start ∧ State.reset.line = LineUnit.start ∧ State.reset.roster = Roster.start ∧
    State.reset.port = Port.start ∧ State.reset.ntc = NoticeQueue.start ∧ State.reset.res = Resume.start .power ∧
    State.reset.jrn = Journal.start .erased .erased ∧ State.reset.inp = InputMonitor.preset State.reset.pins ∧
    State.reset.pins = ⟨⟨false, false, false, true⟩, false, 1⟩ ∧ State.reset.station = 0 ∧
    State.reset.pending = [] ∧ State.reset.ClaimsOk ∧ State.reset.ntc.Ok ∧ State.reset.CountersOk ∧
    LineUnit.start = {
      state := .idle, role := .none, sent := none, received := none, recessive := 0, courtesy := false, score := 0 } ∧
    (∀ i, Roster.start.entry i = {
      presence := .absent, declaredStanding := none, held := 0, declaredBudget := none, phaseClass := none,
      sinceHeard := 255000, mismatch := false }) ∧
    Roster.start.lane = none ∧
    Controller.start = {
      standing := .unconfigured, config := none, send := ⟨false, false, false, false, false⟩, census := .stopped,
      listen := .stopped, unheard := .stopped, waitAge := 0, takeVoids := 0, shed := false, permit := 0 } ∧
    Cycle.start = {
      phase := .idle, target := .none, program := none, remainingDry := 0, cool := ⟨0, 0⟩, window := ⟨0, 0⟩,
      rest := ⟨0, 0⟩, burst := ⟨0, 0⟩, resumed := false, heatBarred := false, highLimitSeen := false, resumeCount := 0,
      heatWant := 0, laneWant := none, motorWanted := false, outcome := .none, credit := 0, starvation := 0,
      starvationReported := false, checkpointTimer := .stopped } ∧
    Gate.start = {
      heat1 := ⟨false, 0, .running 0, false⟩, heat2 := ⟨false, 0, .running 0, false⟩, motor := false,
      motorMinOff := .running 0, startOrder := false, watch := .none, rotation := .stopped, grace := 0,
      report := false, pastStart := false } ∧
    Supply.cold = {
      power := .settle, absence := .stopped, qualification := .stopped, settle := .running 0, ride := .stopped,
      outage := none, outagePart := 0, outageRunning := false, doorLatch := false, warm := false,
      finalWanted := false, darkSent := false, rideHeld := false } ∧
    (∀ a b, Journal.start a b = {
      slotA := a, slotB := b, operation := none, elapsed := 0, pendingWrite := false, retry := false,
      eraseQueued := false, newest := none, newestSequence := none, tornA := false, tornB := false,
      startRead := true }) ∧
    Port.start = ⟨.idle, none, [], []⟩ ∧
    NoticeQueue.start = { queue := [], overflow := false, attn := false, aged := .stopped } ∧
    (∀ pins, InputMonitor.preset pins = { level := pins.level, delta := pins.level }) ∧
    ∀ path, Resume.start path = { path := path, decided := false, lastOutage := .none, lastClass := none }

/-- R50, R59, R63, R107, R112: in a settled part no stage is energized without permit, rotation, closed door, inactive
HIGH LIMIT and RUN, no more stages than are held, MOTOR only while wanted with the door closed in RUN, and nothing is
pending that the standing does not permit. -/
def Obligations.SettledIsSafe : Prop :=
  ∀ p : Part, p.Settled → p.HeatSafe ∧ p.MotorSafe ∧ p.SendPermitted

/-- Every step leaves the derived state worked out, whatever command it takes. -/
def Obligations.EveryStepLeavesAPartSettled : Prop :=
  ∀ s t : State, s.Settled → step s = .next t → t.Settled

/-- R22, R67, R70, R171 to R173: every step keeps the queue within eight notices, ATTN low while it is empty, and the
counters in range. -/
def Obligations.EveryStepKeepsQueueAndCounters : Prop :=
  ∀ s t : State, s.ntc.Ok → s.CountersOk → step s = .next t → t.ntc.Ok ∧ t.CountersOk

/-- R12 to R15, R27, R71, R72, R135: every step keeps what a claim is composed from in range, the frames in hand free of
FORM errors, and the newest checkpoint valid and spared by every write. -/
def Obligations.EveryStepKeepsTheClaims : Prop :=
  ∀ s t : State, s.ClaimsOk → step s = .next t → t.ClaimsOk

/-! ## The passing of time -/

/-- R29, R41, R62, R64, R78, R80, R83, R92, R93, R106, R110, R114, R115, R119 to R125, R128, R129, R173: what a millisecond
counts, in each power state; nothing else changes but the enable outputs, which now follow (R116, log 1). The last second of a counter stays until its event is taken (log 4). -/
def Obligations.TimePasses : Prop :=
  ∀ p : Part,
    let up := fun t : Timer => match t with
      | .running n => Timer.running (n + 1)
      | t => t
    let down := fun (c : Countdown) (counts : Prop) [Decidable counts] =>
      if counts ∧ 0 < c.seconds then
        if c.part + 1 < 1000 then Countdown.mk c.seconds (c.part + 1)
        else if c.seconds = 1 then ⟨1, 1000⟩ else ⟨c.seconds - 1, 0⟩
      else c
    let stage := fun g : StageGate => { g with
      minOn := if g.on = true then min 10000 (g.minOn + 1) else g.minOn, minOff := up g.minOff }
    let clock : Supply :=
      if p.sup.outageRunning = true ∧ p.sup.outage ≠ none then
        if p.sup.outagePart + 1 < 1000 then { p.sup with outagePart := p.sup.outagePart + 1 }
        else { p.sup with outage := p.sup.outage.map fun t => min 65535 (t + 1), outagePart := 0 }
      else p.sup
    let dry := p.cyc.phase = .dry
    let tumbling := p.cyc.phase = .rest ∨ p.cyc.phase = .burstWait ∨ p.cyc.phase = .burst
    (p.sup.power = .off → p.tick = p) ∧
    (p.sup.power = .standby → p.tick = { p with sup := clock }) ∧
    (p.works → p.tick = { p with
      line := { p.line with recessive :=
        if p.line.state = .idle ∧ 11 ≤ p.line.recessive then 19 else p.line.recessive }
      roster := p.tick.roster
      ctl := { p.ctl with census := up p.ctl.census, listen := up p.ctl.listen, unheard := up p.ctl.unheard }
      gate := { p.gate with
        heat1 := stage p.gate.heat1
        heat2 := stage p.gate.heat2
        motorMinOff := up p.gate.motorMinOff
        rotation := up p.gate.rotation
        grace := if p.inp.level.exhaustHot = true ∧ dry ∧ 1 ≤ p.ownHeld ∧ p.gate.report = false
          then min 30000 (p.gate.grace + 1) else p.gate.grace
        pastStart := true }
      sup := { clock with
        absence := up p.sup.absence
        qualification := up p.sup.qualification
        settle := up p.sup.settle
        ride := up p.sup.ride }
      jrn := { p.jrn with elapsed :=
        if p.jrn.operation ≠ none ∨ p.jrn.startRead = true then p.jrn.elapsed + 1 else p.jrn.elapsed }
      ntc := { p.ntc with aged := up p.ntc.aged }
      cyc := if p.sup.power = .run then { p.cyc with
          cool := down p.cyc.cool (p.cyc.phase = .cool)
          window := down p.cyc.window tumbling
          rest := down p.cyc.rest (p.cyc.phase = .rest)
          burst := down p.cyc.burst (p.cyc.phase = .burst)
          credit := if dry ∧ (p.gate.motor = true ∧ p.gate.watch = .running) ∧ 1 ≤ p.ctl.permit
            then min 1000 (p.cyc.credit + 1) else p.cyc.credit
          starvation := if dry ∧ 0 < p.cyc.heatWant ∧ p.ownHeld = 0
            then min 1800000 (p.cyc.starvation + 1) else p.cyc.starvation
          checkpointTimer := up p.cyc.checkpointTimer }
        else p.cyc }) ∧
    (p.works → p.tick.gate.motorDrive = p.gate.motor ∧ p.tick.gate.heat1.drive = p.gate.heat1.on ∧
      p.tick.gate.heat2.drive = p.gate.heat2.on) ∧
    (p.works → p.tick.roster.lane = p.roster.lane.map (fun l => ⟨l.station, l.remaining - 1⟩) ∧
      p.tick.roster.entry p.station = p.own ∧
      ∀ i, i ≠ p.station → p.tick.roster.entry i =
        { p.roster.entry i with sinceHeard := min 255000 ((p.roster.entry i).sinceHeard + 1) })
end

