-- ==== Sys2Proof/Laws/Codec.lean ====
section
/-! SUPPORT. Round trips of the formats: a field written and read back, spacers put in and taken out, where the spacers
stand, and the request an exchange's bytes make. -/

namespace Sys2Proof.Machine

@[simp] theorem length_bitsOf (w n : Nat) : (bitsOf w n).length = w := by
  induction w with
  | zero => rfl
  | succ w ih => simp [bitsOf, ih]

/-- A field of `w` bits, highest bit first, bit by bit. -/
theorem bitsOf_eq_map (w n : Nat) : bitsOf w n = (List.range w).map fun j => n.testBit (w - 1 - j) := by
  induction w with
  | zero => rfl
  | succ w ih =>
    rw [List.range_succ_eq_map, bitsOf, ih]
    simp [Function.comp_def, Nat.sub_sub, Nat.add_comm]

theorem foldl_number (bits : List Bit) (a : Nat) :
    bits.foldl (fun n b => 2 * n + b.toNat) a = a * 2 ^ bits.length + numberOf bits := by
  induction bits generalizing a with
  | nil => simp [numberOf]
  | cons b bits ih =>
    rw [numberOf, List.foldl_cons, List.foldl_cons, ih, ih (2 * 0 + b.toNat), List.length_cons, pow_succ]
    ring

theorem numberOf_cons (b : Bit) (bits : List Bit) :
    numberOf (b :: bits) = b.toNat * 2 ^ bits.length + numberOf bits := by
  rw [numberOf, List.foldl_cons, foldl_number]; simp

/-- Reading back the bits of a number gives what fits in the field. -/
theorem numberOf_bitsOf (w n : Nat) : numberOf (bitsOf w n) = n % 2 ^ w := by
  induction w with
  | zero => simp [bitsOf, numberOf, Nat.mod_one]
  | succ w ih =>
    rw [bitsOf, numberOf_cons, length_bitsOf, ih, Nat.mod_pow_succ, Nat.testBit_eq_decide_div_mod_eq]
    rcases Nat.mod_two_eq_zero_or_one (n / 2 ^ w) with h | h <;> simp [h, Nat.add_comm]

/-- A field read back is the field written. -/
theorem fieldOf_bitsOf (w : Nat) (x : BitVec w) : fieldOf w (bitsOf w x.toNat) = x := by
  rw [fieldOf, numberOf_bitsOf, Nat.mod_eq_of_lt x.isLt]
  exact BitVec.ofNat_toNat w x ▸ by simp

/-- Spacers come out as they went in, and none has a fault. -/
theorem withoutSpacers_withSpacers (bits : List Bit) : withoutSpacers (withSpacers bits) = (bits, false) := by
  fun_induction withSpacers bits with
  | case1 => rfl
  | case2 a => cases a <;> rfl
  | case3 a b => cases b <;> rfl
  | case4 a b c => cases c <;> rfl
  | case5 a b c d rest ih => rw [withoutSpacers, ih]; cases d <;> simp

/-- How long a run of frame bits is with its spacers. -/
theorem length_withSpacers (bits : List Bit) :
    (withSpacers bits).length = bits.length + (bits.length + 3) / 4 := by
  fun_induction withSpacers bits with
  | case1 => rfl
  | case2 a => simp
  | case3 a b => simp
  | case4 a b c => simp
  | case5 a b c d rest ih => simp only [List.length_cons, ih]; omega

/-- The places of the spacers in a run of `n` bits (01, R2). -/
abbrev IsSpacer (n j : Nat) : Prop := j % 5 = 4 ∨ j + 1 = n

/-- The bits that stand at no spacer's place. -/
def bitsBetweenSpacers (bits : List Bit) : List Bit :=
  ((List.range bits.length).filter fun j => ¬ IsSpacer bits.length j).map fun j => bits.getD j true

theorem bitsBetweenSpacers_chunk (a b c d e : Bit) (rest : List Bit) :
    bitsBetweenSpacers (a :: b :: c :: d :: e :: rest) = a :: b :: c :: d :: bitsBetweenSpacers rest := by
  have h : List.range (rest.length + 5) = [0, 1, 2, 3, 4] ++ (List.range rest.length).map (5 + ·) := by
    rw [Nat.add_comm, List.range_add]; rfl
  have hs : ∀ j, IsSpacer (rest.length + 5) (5 + j) ↔ IsSpacer rest.length j := by
    intro j; unfold IsSpacer; omega
  unfold bitsBetweenSpacers
  simp only [List.length_cons, Nat.add_assoc, Nat.reduceAdd, h, List.filter_append, List.map_append, List.filter_map,
    List.map_map, Function.comp_def, hs]
  have k : ∀ j, (a :: b :: c :: d :: e :: rest).getD (5 + j) true = rest.getD j true := by
    intro j; rw [show 5 + j = j + 5 by omega]; rfl
  simp only [k]
  have l : List.filter (fun j => decide ¬ IsSpacer (rest.length + 5) j) [0, 1, 2, 3, 4] = [0, 1, 2, 3] := by
    simp [List.filter, IsSpacer]
  rw [l]; rfl

/-- What reading takes for frame bits and for a spacer fault, place by place. -/
theorem withoutSpacers_places (bits : List Bit) (h : bits.length % 5 ≠ 1) :
    (withoutSpacers bits).1 = bitsBetweenSpacers bits ∧
      ((withoutSpacers bits).2 = true ↔ ∃ j, IsSpacer bits.length (j + 1) ∧ j + 1 < bits.length ∧
        bits.getD (j + 1) true = bits.getD j true) := by
  fun_induction withoutSpacers bits with
  | case1 a b c d e rest ih =>
    have hr : rest.length % 5 ≠ 1 := by simp only [List.length_cons] at h; omega
    obtain ⟨i1, i2⟩ := ih hr
    refine ⟨by rw [bitsBetweenSpacers_chunk, i1], ?_⟩
    rw [Bool.or_eq_true, i2]
    constructor
    · rintro (k | ⟨j, k1, k2, k3⟩)
      · exact ⟨3, Or.inl rfl, by simp, by simpa using (beq_iff_eq.mp k).symm⟩
      · refine ⟨j + 5, ?_, by simp only [List.length_cons]; omega, k3⟩
        simp only [List.length_cons] at *; unfold IsSpacer at *; omega
    · rintro ⟨j, k1, k2, k3⟩
      simp only [List.length_cons] at k1 k2
      rcases Nat.lt_or_ge j 4 with hj | hj
      · left
        have : j = 3 := by unfold IsSpacer at k1; omega
        subst this; simpa using k3.symm
      · right
        have h5 : j ≠ 4 := by unfold IsSpacer at k1; omega
        obtain ⟨m, rfl⟩ : ∃ m, j = m + 5 := ⟨j - 5, by omega⟩
        exact ⟨m, by unfold IsSpacer at *; omega, by omega, k3⟩
  | case2 a b c e => exact ⟨by simp [bitsBetweenSpacers, IsSpacer, List.range_succ, List.filter], by
      constructor
      · exact fun k => ⟨2, Or.inr rfl, by simp, by simpa using (beq_iff_eq.mp k).symm⟩
      · rintro ⟨j, k1, k2, k3⟩
        simp only [List.length_cons, List.length_nil] at k1 k2
        have : j = 2 := by unfold IsSpacer at k1; omega
        subst this; simpa using k3.symm⟩
  | case3 a b e => exact ⟨by simp [bitsBetweenSpacers, IsSpacer, List.range_succ, List.filter], by
      constructor
      · exact fun k => ⟨1, Or.inr rfl, by simp, by simpa using (beq_iff_eq.mp k).symm⟩
      · rintro ⟨j, k1, k2, k3⟩
        simp only [List.length_cons, List.length_nil] at k1 k2
        have : j = 1 := by unfold IsSpacer at k1; omega
        subst this; simpa using k3.symm⟩
  | case4 a e => exact ⟨by simp [bitsBetweenSpacers, IsSpacer, List.range_succ, List.filter], by
      constructor
      · exact fun k => ⟨0, Or.inr rfl, by simp, by simpa using (beq_iff_eq.mp k).symm⟩
      · rintro ⟨j, k1, k2, k3⟩
        simp only [List.length_cons, List.length_nil] at k1 k2
        have : j = 0 := by unfold IsSpacer at k1; omega
        subst this; simpa using k3.symm⟩
  | case5 a => simp at h
  | case6 => simp [bitsBetweenSpacers]

/-- The two bytes of a number of 16 bits, highest first, make it up again (01, R26). -/
theorem byte_append_byte (w : BitVec 16) : byte (w.toNat / 256) ++ byte w.toNat = w := by
  apply BitVec.eq_of_toNat_eq
  rw [BitVec.toNat_append]
  simp only [byte, BitVec.toNat_ofNat]
  rw [← Nat.shiftLeft_add_eq_or_of_lt (by omega)]
  have := w.isLt
  omega

/-- An exchange whose command byte takes the data bytes given is that request, with the bytes beyond them left out. -/
theorem ofExchange_request {straps : BitVec 4} {command : Byte} {n : Nat} {taken rest : List Byte}
    (h : command ≠ fetchByte) (hd : dataBytesOf command = some n) (ht : taken.length = n) :
    Instr.ofExchange false straps (command :: (taken ++ rest)) =
      Instr.ofRequest straps command taken := by
  subst ht
  simp [Instr.ofExchange, h, hd]

/-- The bits of a byte, highest first. -/
theorem bits_of_byte (b : Byte) : [b[7], b[6], b[5], b[4], b[3], b[2], b[1], b[0]] = bitsOf 8 b.toNat := by
  simp [bitsOf, BitVec.getElem_eq_testBit_toNat]

/-- Bytes clocked bit by bit are read back, the bits of a byte that is not whole being left out (10, R162). -/
theorem bytesClocked_bits (bytes : List Byte) (rest : List Bool) (h : rest.length < 8) :
    bytesClocked ((bytes.flatMap fun b => bitsOf 8 b.toNat) ++ rest) = bytes := by
  induction bytes with
  | nil =>
    match rest, h with
    | [], _ => rfl
    | [_], _ => rfl
    | [_, _], _ => rfl
    | [_, _, _], _ => rfl
    | [_, _, _, _], _ => rfl
    | [_, _, _, _, _], _ => rfl
    | [_, _, _, _, _, _], _ => rfl
    | [_, _, _, _, _, _, _], _ => rfl
  | cons b bytes ih =>
    show fieldOf 8 (bitsOf 8 b.toNat) :: bytesClocked ((bytes.flatMap fun b => bitsOf 8 b.toNat) ++ rest) = _
    rw [fieldOf_bitsOf, ih]

end Sys2Proof.Machine
end

