-- ==== Sys2Proof/Laws/Due.lean ====
section
/-! SUPPORT. Which events are due: what membership in each list of due events says, cited instead of unfolding the
lists. -/

namespace Sys2Proof.Machine

theorem mem_dueIf {b : Bool} {i j : Instr} : i ∈ dueIf b j ↔ b = true ∧ i = j := by
  unfold dueIf; split <;> simp_all

theorem Timer.isDue_iff {t : Timer} {limit : Nat} : t.isDue limit = true ↔ ∃ n, t = .running n ∧ limit ≤ n := by
  cases t <;> simp [Timer.isDue]

theorem Countdown.isDue_iff {c : Countdown} :
    c.isDue = true ↔ c.seconds = 0 ∨ (c.seconds = 1 ∧ 1000 ≤ c.part) := by
  simp [Countdown.isDue, Countdown.lastOver]

theorem Countdown.settled_eq (c : Countdown) :
    c.settled = if c.seconds = 1 ∧ 1000 ≤ c.part then ⟨0, 0⟩ else c := by
  simp [Countdown.settled, Countdown.lastOver]

theorem Roster.laneDue_iff {r : Roster} : r.laneDue = true ↔ ∃ l, r.lane = some l ∧ l.remaining = 0 := by
  simp [Roster.laneDue]

theorem mem_stations (i : Station) : i ∈ stations := by revert i; decide

/-- The events that wait for every other one (06, R116; log 1). -/
theorem Part.mem_switchOnDue {p : Part} {i : Instr} : i ∈ p.switchOnDue ↔
    (p.gate.heat1.minOff.isDue heatMinOffLimit = true ∧ i = .heatMinOffElapsed .one) ∨
      (p.gate.heat2.minOff.isDue heatMinOffLimit = true ∧ i = .heatMinOffElapsed .two) ∨
      (p.gate.motorMinOff.isDue motorMinOffLimit = true ∧ i = .motorMinOffElapsed) := by
  simp only [Part.switchOnDue, List.mem_append, mem_dueIf, or_assoc]

theorem Part.mem_supplyDue {p : Part} {i : Instr} : i ∈ p.supplyDue ↔
    (p.sup.power = .settle ∧ p.sup.settle.isDue p.sup.settleLimit = true ∧ i = .settleExpiry) ∨
      (p.sup.power = .qualify ∧ p.sup.qualification.isDue qualificationLimit = true ∧ i = .endOfQualification) ∨
      (p.sup.power = .qualify ∧ p.sup.absence.isDue absenceLimit = true ∧ i = .qualifyDrop) ∨
      (p.sup.power = .run ∧ p.sup.absence.isDue absenceLimit = true ∧ i = .mainsDeclaredAbsent) ∨
      (p.sup.power = .ride ∧ p.sup.ride.isDue rideLimit = true ∧ i = .rideTimerExpiry) := by
  unfold Part.supplyDue; cases p.sup.power <;> simp [mem_dueIf]

theorem Part.mem_journalDue {p : Part} {i : Instr} : i ∈ p.journalDue ↔
    (p.jrn.startRead = true ∧ startReadLimit ≤ p.jrn.elapsed ∧ i = .startReadComplete) ∨
      ((∃ n r, p.jrn.operation = some (.write n r)) ∧ operationLimit ≤ p.jrn.elapsed ∧
        i = .writeCompletion (Config.freeReadBack p.freeCount)) ∨
      ((∃ n, p.jrn.operation = some (.erase n)) ∧ operationLimit ≤ p.jrn.elapsed ∧ i = .eraseCompletion) := by
  unfold Part.journalDue
  rcases p.jrn.operation with _ | ⟨n, r⟩ | n <;> simp [mem_dueIf, and_assoc]

/-- The events of line unit, roster and standing controller that can be due. -/
theorem Part.eq_of_mem_groupDue {p : Part} {i : Instr} (h : i ∈ p.groupDue) : (∃ j, i = .entryAgedLost j) ∨
    i ∈ [Instr.transmissionStart, .courtesyGapEnd, .laneSpacingExpiry, .listenTimerExpiry, .censusTimerExpiry,
      .standingTimerExpiry] := by
  simp only [Part.groupDue, List.mem_append, mem_dueIf, List.mem_map, or_assoc] at h
  rcases h with ⟨_, rfl⟩ | ⟨_, rfl⟩ | ⟨_, rfl⟩ | ⟨j, _, rfl⟩ | ⟨_, rfl⟩ | ⟨_, rfl⟩ | ⟨_, rfl⟩ <;> simp

/-- The events of the output gate and of the notice queue that can be due. -/
theorem Part.eq_of_mem_gateDue {p : Part} {i : Instr} (h : i ∈ p.gateDue) :
    i ∈ [Instr.heatMinOnReached .one, .heatMinOnReached .two, .thermostatGraceExpiry, .noRotation, .rotationLost,
      .agedTimerExpiry] := by
  simp only [Part.gateDue, List.mem_append, mem_dueIf, or_assoc] at h
  rcases h with ⟨_, rfl⟩ | ⟨_, rfl⟩ | ⟨_, rfl⟩ | ⟨_, rfl⟩ | ⟨_, rfl⟩ | ⟨_, rfl⟩ <;> simp

/-- The events of the cycle engine that can be due. -/
theorem Part.eq_of_mem_cycleDue {p : Part} {i : Instr} (h : i ∈ p.cycleDue) :
    i ∈ [Instr.creditSecond, .endOfCooling, .heatStarved, .checkpointTimerExpiry, .restExpiry, .burstEnd,
      .windowExpiry] := by
  simp only [Part.cycleDue, List.mem_append, mem_dueIf, or_assoc] at h
  rcases h with ⟨_, rfl⟩ | ⟨_, rfl⟩ | ⟨_, rfl⟩ | ⟨_, rfl⟩ | ⟨_, rfl⟩ | ⟨_, rfl⟩ | ⟨_, rfl⟩ <;> simp

/-- An event that switches no output on is due among the first. -/
theorem Part.mem_due_iff_mem_firstDue {p : Part} {i : Instr} (h1 : ∀ n, i ≠ .heatMinOffElapsed n)
    (h2 : i ≠ .motorMinOffElapsed) : i ∈ p.due ↔ i ∈ p.firstDue := by
  unfold Part.due; split
  · next c => rw [c.2, Part.mem_switchOnDue]; simp [h1, h2]
  · rfl

theorem Part.mem_firstDue {p : Part} {i : Instr} : i ∈ p.firstDue ↔ p.works ∧
    (i ∈ p.supplyDue ∨ i ∈ p.journalDue ∨ i ∈ p.groupDue ∨ i ∈ p.gateDue ∨ (p.engineRuns ∧ i ∈ p.cycleDue)) := by
  unfold Part.firstDue
  by_cases h : p.works <;> by_cases k : p.engineRuns <;> simp [h, k]

/-- Nothing that switches an output on is due among the first. -/
theorem Part.not_mem_firstDue_of_switchOn {p : Part} {i : Instr} (h : i ∈ p.switchOnDue) : i ∉ p.firstDue := by
  rw [Part.mem_switchOnDue] at h
  rw [Part.mem_firstDue, Part.mem_supplyDue, Part.mem_journalDue]
  rcases h with ⟨_, rfl⟩ | ⟨_, rfl⟩ | ⟨_, rfl⟩ <;> simp [Part.groupDue, Part.gateDue, Part.cycleDue, mem_dueIf]

end Sys2Proof.Machine
end

