-- ==== Sys2Proof/Laws/Frames.lean ====
section
/-! SUPPORT. Which blocks each shared operation leaves alone: one lemma per operation and block, so that no proof
unfolds an operation for a block it does not touch. -/

namespace Sys2Proof.Machine

/-! ### Part.settleThermostat -/

@[simp] theorem Part.settleThermostat_station (p : Part) : p.settleThermostat.station = p.station := by
  unfold Part.settleThermostat; (try dsimp only); repeat' split
  all_goals simp
@[simp] theorem Part.settleThermostat_line (p : Part) : p.settleThermostat.line = p.line := by
  unfold Part.settleThermostat; (try dsimp only); repeat' split
  all_goals simp
@[simp] theorem Part.settleThermostat_roster (p : Part) : p.settleThermostat.roster = p.roster := by
  unfold Part.settleThermostat; (try dsimp only); repeat' split
  all_goals simp
@[simp] theorem Part.settleThermostat_ctl (p : Part) : p.settleThermostat.ctl = p.ctl := by
  unfold Part.settleThermostat; (try dsimp only); repeat' split
  all_goals simp
@[simp] theorem Part.settleThermostat_cyc (p : Part) : p.settleThermostat.cyc = p.cyc := by
  unfold Part.settleThermostat; (try dsimp only); repeat' split
  all_goals simp
@[simp] theorem Part.settleThermostat_sup (p : Part) : p.settleThermostat.sup = p.sup := by
  unfold Part.settleThermostat; (try dsimp only); repeat' split
  all_goals simp
@[simp] theorem Part.settleThermostat_jrn (p : Part) : p.settleThermostat.jrn = p.jrn := by
  unfold Part.settleThermostat; (try dsimp only); repeat' split
  all_goals simp
@[simp] theorem Part.settleThermostat_port (p : Part) : p.settleThermostat.port = p.port := by
  unfold Part.settleThermostat; (try dsimp only); repeat' split
  all_goals simp
@[simp] theorem Part.settleThermostat_ntc (p : Part) : p.settleThermostat.ntc = p.ntc := by
  unfold Part.settleThermostat; (try dsimp only); repeat' split
  all_goals simp
@[simp] theorem Part.settleThermostat_inp (p : Part) : p.settleThermostat.inp = p.inp := by
  unfold Part.settleThermostat; (try dsimp only); repeat' split
  all_goals simp
@[simp] theorem Part.settleThermostat_res (p : Part) : p.settleThermostat.res = p.res := by
  unfold Part.settleThermostat; (try dsimp only); repeat' split
  all_goals simp
@[simp] theorem Part.settleThermostat_pins (p : Part) : p.settleThermostat.pins = p.pins := by
  unfold Part.settleThermostat; (try dsimp only); repeat' split
  all_goals simp
@[simp] theorem Part.settleThermostat_freeCount (p : Part) : p.settleThermostat.freeCount = p.freeCount := by
  unfold Part.settleThermostat; (try dsimp only); repeat' split
  all_goals simp

/-! ### Part.settleWants -/

@[simp] theorem Part.settleWants_station (p : Part) : p.settleWants.station = p.station := by
  unfold Part.settleWants; (try dsimp only); repeat' split
  all_goals simp
@[simp] theorem Part.settleWants_line (p : Part) : p.settleWants.line = p.line := by
  unfold Part.settleWants; (try dsimp only); repeat' split
  all_goals simp
@[simp] theorem Part.settleWants_roster (p : Part) : p.settleWants.roster = p.roster := by
  unfold Part.settleWants; (try dsimp only); repeat' split
  all_goals simp
@[simp] theorem Part.settleWants_ctl (p : Part) : p.settleWants.ctl = p.ctl := by
  unfold Part.settleWants; (try dsimp only); repeat' split
  all_goals simp
@[simp] theorem Part.settleWants_gate (p : Part) : p.settleWants.gate = p.gate := by
  unfold Part.settleWants; (try dsimp only); repeat' split
  all_goals simp
@[simp] theorem Part.settleWants_sup (p : Part) : p.settleWants.sup = p.sup := by
  unfold Part.settleWants; (try dsimp only); repeat' split
  all_goals simp
@[simp] theorem Part.settleWants_jrn (p : Part) : p.settleWants.jrn = p.jrn := by
  unfold Part.settleWants; (try dsimp only); repeat' split
  all_goals simp
@[simp] theorem Part.settleWants_port (p : Part) : p.settleWants.port = p.port := by
  unfold Part.settleWants; (try dsimp only); repeat' split
  all_goals simp
@[simp] theorem Part.settleWants_ntc (p : Part) : p.settleWants.ntc = p.ntc := by
  unfold Part.settleWants; (try dsimp only); repeat' split
  all_goals simp
@[simp] theorem Part.settleWants_inp (p : Part) : p.settleWants.inp = p.inp := by
  unfold Part.settleWants; (try dsimp only); repeat' split
  all_goals simp
@[simp] theorem Part.settleWants_res (p : Part) : p.settleWants.res = p.res := by
  unfold Part.settleWants; (try dsimp only); repeat' split
  all_goals simp
@[simp] theorem Part.settleWants_pins (p : Part) : p.settleWants.pins = p.pins := by
  unfold Part.settleWants; (try dsimp only); repeat' split
  all_goals simp
@[simp] theorem Part.settleWants_freeCount (p : Part) : p.settleWants.freeCount = p.freeCount := by
  unfold Part.settleWants; (try dsimp only); repeat' split
  all_goals simp

/-! ### Part.settleOrder -/

@[simp] theorem Part.settleOrder_station (p : Part) : p.settleOrder.station = p.station := by
  unfold Part.settleOrder; (try dsimp only); repeat' split
  all_goals simp
@[simp] theorem Part.settleOrder_line (p : Part) : p.settleOrder.line = p.line := by
  unfold Part.settleOrder; (try dsimp only); repeat' split
  all_goals simp
@[simp] theorem Part.settleOrder_roster (p : Part) : p.settleOrder.roster = p.roster := by
  unfold Part.settleOrder; (try dsimp only); repeat' split
  all_goals simp
@[simp] theorem Part.settleOrder_ctl (p : Part) : p.settleOrder.ctl = p.ctl := by
  unfold Part.settleOrder; (try dsimp only); repeat' split
  all_goals simp
@[simp] theorem Part.settleOrder_cyc (p : Part) : p.settleOrder.cyc = p.cyc := by
  unfold Part.settleOrder; (try dsimp only); repeat' split
  all_goals simp
@[simp] theorem Part.settleOrder_sup (p : Part) : p.settleOrder.sup = p.sup := by
  unfold Part.settleOrder; (try dsimp only); repeat' split
  all_goals simp
@[simp] theorem Part.settleOrder_jrn (p : Part) : p.settleOrder.jrn = p.jrn := by
  unfold Part.settleOrder; (try dsimp only); repeat' split
  all_goals simp
@[simp] theorem Part.settleOrder_port (p : Part) : p.settleOrder.port = p.port := by
  unfold Part.settleOrder; (try dsimp only); repeat' split
  all_goals simp
@[simp] theorem Part.settleOrder_ntc (p : Part) : p.settleOrder.ntc = p.ntc := by
  unfold Part.settleOrder; (try dsimp only); repeat' split
  all_goals simp
@[simp] theorem Part.settleOrder_inp (p : Part) : p.settleOrder.inp = p.inp := by
  unfold Part.settleOrder; (try dsimp only); repeat' split
  all_goals simp
@[simp] theorem Part.settleOrder_res (p : Part) : p.settleOrder.res = p.res := by
  unfold Part.settleOrder; (try dsimp only); repeat' split
  all_goals simp
@[simp] theorem Part.settleOrder_pins (p : Part) : p.settleOrder.pins = p.pins := by
  unfold Part.settleOrder; (try dsimp only); repeat' split
  all_goals simp
@[simp] theorem Part.settleOrder_freeCount (p : Part) : p.settleOrder.freeCount = p.freeCount := by
  unfold Part.settleOrder; (try dsimp only); repeat' split
  all_goals simp

/-! ### Part.settleMotor -/

@[simp] theorem Part.settleMotor_station (p : Part) : p.settleMotor.station = p.station := by
  unfold Part.settleMotor; (try dsimp only); repeat' split
  all_goals simp
@[simp] theorem Part.settleMotor_line (p : Part) : p.settleMotor.line = p.line := by
  unfold Part.settleMotor; (try dsimp only); repeat' split
  all_goals simp
@[simp] theorem Part.settleMotor_roster (p : Part) : p.settleMotor.roster = p.roster := by
  unfold Part.settleMotor; (try dsimp only); repeat' split
  all_goals simp
@[simp] theorem Part.settleMotor_ctl (p : Part) : p.settleMotor.ctl = p.ctl := by
  unfold Part.settleMotor; (try dsimp only); repeat' split
  all_goals simp
@[simp] theorem Part.settleMotor_cyc (p : Part) : p.settleMotor.cyc = p.cyc := by
  unfold Part.settleMotor; (try dsimp only); repeat' split
  all_goals simp
@[simp] theorem Part.settleMotor_sup (p : Part) : p.settleMotor.sup = p.sup := by
  unfold Part.settleMotor; (try dsimp only); repeat' split
  all_goals simp
@[simp] theorem Part.settleMotor_jrn (p : Part) : p.settleMotor.jrn = p.jrn := by
  unfold Part.settleMotor; (try dsimp only); repeat' split
  all_goals simp
@[simp] theorem Part.settleMotor_port (p : Part) : p.settleMotor.port = p.port := by
  unfold Part.settleMotor; (try dsimp only); repeat' split
  all_goals simp
@[simp] theorem Part.settleMotor_ntc (p : Part) : p.settleMotor.ntc = p.ntc := by
  unfold Part.settleMotor; (try dsimp only); repeat' split
  all_goals simp
@[simp] theorem Part.settleMotor_inp (p : Part) : p.settleMotor.inp = p.inp := by
  unfold Part.settleMotor; (try dsimp only); repeat' split
  all_goals simp
@[simp] theorem Part.settleMotor_res (p : Part) : p.settleMotor.res = p.res := by
  unfold Part.settleMotor; (try dsimp only); repeat' split
  all_goals simp
@[simp] theorem Part.settleMotor_pins (p : Part) : p.settleMotor.pins = p.pins := by
  unfold Part.settleMotor; (try dsimp only); repeat' split
  all_goals simp
@[simp] theorem Part.settleMotor_freeCount (p : Part) : p.settleMotor.freeCount = p.freeCount := by
  unfold Part.settleMotor; (try dsimp only); repeat' split
  all_goals simp

/-! ### Part.settlePermit -/

@[simp] theorem Part.settlePermit_station (p : Part) : p.settlePermit.station = p.station := rfl
@[simp] theorem Part.settlePermit_line (p : Part) : p.settlePermit.line = p.line := rfl
@[simp] theorem Part.settlePermit_roster (p : Part) : p.settlePermit.roster = p.roster := rfl
@[simp] theorem Part.settlePermit_cyc (p : Part) : p.settlePermit.cyc = p.cyc := rfl
@[simp] theorem Part.settlePermit_gate (p : Part) : p.settlePermit.gate = p.gate := rfl
@[simp] theorem Part.settlePermit_sup (p : Part) : p.settlePermit.sup = p.sup := rfl
@[simp] theorem Part.settlePermit_jrn (p : Part) : p.settlePermit.jrn = p.jrn := rfl
@[simp] theorem Part.settlePermit_port (p : Part) : p.settlePermit.port = p.port := rfl
@[simp] theorem Part.settlePermit_ntc (p : Part) : p.settlePermit.ntc = p.ntc := rfl
@[simp] theorem Part.settlePermit_inp (p : Part) : p.settlePermit.inp = p.inp := rfl
@[simp] theorem Part.settlePermit_res (p : Part) : p.settlePermit.res = p.res := rfl
@[simp] theorem Part.settlePermit_pins (p : Part) : p.settlePermit.pins = p.pins := rfl
@[simp] theorem Part.settlePermit_freeCount (p : Part) : p.settlePermit.freeCount = p.freeCount := rfl

/-! ### Part.settleHeat -/

@[simp] theorem Part.settleHeat_station (p : Part) : p.settleHeat.station = p.station := rfl
@[simp] theorem Part.settleHeat_line (p : Part) : p.settleHeat.line = p.line := rfl
@[simp] theorem Part.settleHeat_roster (p : Part) : p.settleHeat.roster = p.roster := rfl
@[simp] theorem Part.settleHeat_ctl (p : Part) : p.settleHeat.ctl = p.ctl := rfl
@[simp] theorem Part.settleHeat_cyc (p : Part) : p.settleHeat.cyc = p.cyc := rfl
@[simp] theorem Part.settleHeat_sup (p : Part) : p.settleHeat.sup = p.sup := rfl
@[simp] theorem Part.settleHeat_jrn (p : Part) : p.settleHeat.jrn = p.jrn := rfl
@[simp] theorem Part.settleHeat_port (p : Part) : p.settleHeat.port = p.port := rfl
@[simp] theorem Part.settleHeat_ntc (p : Part) : p.settleHeat.ntc = p.ntc := rfl
@[simp] theorem Part.settleHeat_inp (p : Part) : p.settleHeat.inp = p.inp := rfl
@[simp] theorem Part.settleHeat_res (p : Part) : p.settleHeat.res = p.res := rfl
@[simp] theorem Part.settleHeat_pins (p : Part) : p.settleHeat.pins = p.pins := rfl
@[simp] theorem Part.settleHeat_freeCount (p : Part) : p.settleHeat.freeCount = p.freeCount := rfl

/-! ### Part.settleStarvation -/

@[simp] theorem Part.settleStarvation_station (p : Part) : p.settleStarvation.station = p.station := by
  unfold Part.settleStarvation; (try dsimp only); repeat' split
  all_goals simp
@[simp] theorem Part.settleStarvation_line (p : Part) : p.settleStarvation.line = p.line := by
  unfold Part.settleStarvation; (try dsimp only); repeat' split
  all_goals simp
@[simp] theorem Part.settleStarvation_roster (p : Part) : p.settleStarvation.roster = p.roster := by
  unfold Part.settleStarvation; (try dsimp only); repeat' split
  all_goals simp
@[simp] theorem Part.settleStarvation_ctl (p : Part) : p.settleStarvation.ctl = p.ctl := by
  unfold Part.settleStarvation; (try dsimp only); repeat' split
  all_goals simp
@[simp] theorem Part.settleStarvation_gate (p : Part) : p.settleStarvation.gate = p.gate := by
  unfold Part.settleStarvation; (try dsimp only); repeat' split
  all_goals simp
@[simp] theorem Part.settleStarvation_sup (p : Part) : p.settleStarvation.sup = p.sup := by
  unfold Part.settleStarvation; (try dsimp only); repeat' split
  all_goals simp
@[simp] theorem Part.settleStarvation_jrn (p : Part) : p.settleStarvation.jrn = p.jrn := by
  unfold Part.settleStarvation; (try dsimp only); repeat' split
  all_goals simp
@[simp] theorem Part.settleStarvation_port (p : Part) : p.settleStarvation.port = p.port := by
  unfold Part.settleStarvation; (try dsimp only); repeat' split
  all_goals simp
@[simp] theorem Part.settleStarvation_ntc (p : Part) : p.settleStarvation.ntc = p.ntc := by
  unfold Part.settleStarvation; (try dsimp only); repeat' split
  all_goals simp
@[simp] theorem Part.settleStarvation_inp (p : Part) : p.settleStarvation.inp = p.inp := by
  unfold Part.settleStarvation; (try dsimp only); repeat' split
  all_goals simp
@[simp] theorem Part.settleStarvation_res (p : Part) : p.settleStarvation.res = p.res := by
  unfold Part.settleStarvation; (try dsimp only); repeat' split
  all_goals simp
@[simp] theorem Part.settleStarvation_pins (p : Part) : p.settleStarvation.pins = p.pins := by
  unfold Part.settleStarvation; (try dsimp only); repeat' split
  all_goals simp
@[simp] theorem Part.settleStarvation_freeCount (p : Part) : p.settleStarvation.freeCount = p.freeCount := by
  unfold Part.settleStarvation; (try dsimp only); repeat' split
  all_goals simp

/-! ### Part.settleSend -/

@[simp] theorem Part.settleSend_station (p : Part) : p.settleSend.station = p.station := rfl
@[simp] theorem Part.settleSend_line (p : Part) : p.settleSend.line = p.line := rfl
@[simp] theorem Part.settleSend_roster (p : Part) : p.settleSend.roster = p.roster := rfl
@[simp] theorem Part.settleSend_cyc (p : Part) : p.settleSend.cyc = p.cyc := rfl
@[simp] theorem Part.settleSend_gate (p : Part) : p.settleSend.gate = p.gate := rfl
@[simp] theorem Part.settleSend_sup (p : Part) : p.settleSend.sup = p.sup := rfl
@[simp] theorem Part.settleSend_jrn (p : Part) : p.settleSend.jrn = p.jrn := rfl
@[simp] theorem Part.settleSend_port (p : Part) : p.settleSend.port = p.port := rfl
@[simp] theorem Part.settleSend_ntc (p : Part) : p.settleSend.ntc = p.ntc := rfl
@[simp] theorem Part.settleSend_inp (p : Part) : p.settleSend.inp = p.inp := rfl
@[simp] theorem Part.settleSend_res (p : Part) : p.settleSend.res = p.res := rfl
@[simp] theorem Part.settleSend_pins (p : Part) : p.settleSend.pins = p.pins := rfl
@[simp] theorem Part.settleSend_freeCount (p : Part) : p.settleSend.freeCount = p.freeCount := rfl

/-! ### Part.settleWait -/

@[simp] theorem Part.settleWait_station (p : Part) : p.settleWait.station = p.station := by
  unfold Part.settleWait; (try dsimp only); repeat' split
  all_goals simp
@[simp] theorem Part.settleWait_line (p : Part) : p.settleWait.line = p.line := by
  unfold Part.settleWait; (try dsimp only); repeat' split
  all_goals simp
@[simp] theorem Part.settleWait_roster (p : Part) : p.settleWait.roster = p.roster := by
  unfold Part.settleWait; (try dsimp only); repeat' split
  all_goals simp
@[simp] theorem Part.settleWait_cyc (p : Part) : p.settleWait.cyc = p.cyc := by
  unfold Part.settleWait; (try dsimp only); repeat' split
  all_goals simp
@[simp] theorem Part.settleWait_gate (p : Part) : p.settleWait.gate = p.gate := by
  unfold Part.settleWait; (try dsimp only); repeat' split
  all_goals simp
@[simp] theorem Part.settleWait_sup (p : Part) : p.settleWait.sup = p.sup := by
  unfold Part.settleWait; (try dsimp only); repeat' split
  all_goals simp
@[simp] theorem Part.settleWait_jrn (p : Part) : p.settleWait.jrn = p.jrn := by
  unfold Part.settleWait; (try dsimp only); repeat' split
  all_goals simp
@[simp] theorem Part.settleWait_port (p : Part) : p.settleWait.port = p.port := by
  unfold Part.settleWait; (try dsimp only); repeat' split
  all_goals simp
@[simp] theorem Part.settleWait_ntc (p : Part) : p.settleWait.ntc = p.ntc := by
  unfold Part.settleWait; (try dsimp only); repeat' split
  all_goals simp
@[simp] theorem Part.settleWait_inp (p : Part) : p.settleWait.inp = p.inp := by
  unfold Part.settleWait; (try dsimp only); repeat' split
  all_goals simp
@[simp] theorem Part.settleWait_res (p : Part) : p.settleWait.res = p.res := by
  unfold Part.settleWait; (try dsimp only); repeat' split
  all_goals simp
@[simp] theorem Part.settleWait_pins (p : Part) : p.settleWait.pins = p.pins := by
  unfold Part.settleWait; (try dsimp only); repeat' split
  all_goals simp
@[simp] theorem Part.settleWait_freeCount (p : Part) : p.settleWait.freeCount = p.freeCount := by
  unfold Part.settleWait; (try dsimp only); repeat' split
  all_goals simp

/-! ### Part.settle -/

@[simp] theorem Part.settle_station (p : Part) : p.settle.station = p.station := by simp [Part.settle]
@[simp] theorem Part.settle_line (p : Part) : p.settle.line = p.line := by simp [Part.settle]
@[simp] theorem Part.settle_roster (p : Part) : p.settle.roster = p.roster := by simp [Part.settle]
@[simp] theorem Part.settle_sup (p : Part) : p.settle.sup = p.sup := by simp [Part.settle]
@[simp] theorem Part.settle_jrn (p : Part) : p.settle.jrn = p.jrn := by simp [Part.settle]
@[simp] theorem Part.settle_port (p : Part) : p.settle.port = p.port := by simp [Part.settle]
@[simp] theorem Part.settle_ntc (p : Part) : p.settle.ntc = p.ntc := by simp [Part.settle]
@[simp] theorem Part.settle_inp (p : Part) : p.settle.inp = p.inp := by simp [Part.settle]
@[simp] theorem Part.settle_res (p : Part) : p.settle.res = p.res := by simp [Part.settle]
@[simp] theorem Part.settle_pins (p : Part) : p.settle.pins = p.pins := by simp [Part.settle]
@[simp] theorem Part.settle_freeCount (p : Part) : p.settle.freeCount = p.freeCount := by simp [Part.settle]

/-! ### Part.notify -/

@[simp] theorem Part.notify_station (p : Part) (n : Notice) : (p.notify n).station = p.station := rfl
@[simp] theorem Part.notify_line (p : Part) (n : Notice) : (p.notify n).line = p.line := rfl
@[simp] theorem Part.notify_roster (p : Part) (n : Notice) : (p.notify n).roster = p.roster := rfl
@[simp] theorem Part.notify_ctl (p : Part) (n : Notice) : (p.notify n).ctl = p.ctl := rfl
@[simp] theorem Part.notify_cyc (p : Part) (n : Notice) : (p.notify n).cyc = p.cyc := rfl
@[simp] theorem Part.notify_gate (p : Part) (n : Notice) : (p.notify n).gate = p.gate := rfl
@[simp] theorem Part.notify_sup (p : Part) (n : Notice) : (p.notify n).sup = p.sup := rfl
@[simp] theorem Part.notify_jrn (p : Part) (n : Notice) : (p.notify n).jrn = p.jrn := rfl
@[simp] theorem Part.notify_port (p : Part) (n : Notice) : (p.notify n).port = p.port := rfl
@[simp] theorem Part.notify_inp (p : Part) (n : Notice) : (p.notify n).inp = p.inp := rfl
@[simp] theorem Part.notify_res (p : Part) (n : Notice) : (p.notify n).res = p.res := rfl
@[simp] theorem Part.notify_pins (p : Part) (n : Notice) : (p.notify n).pins = p.pins := rfl
@[simp] theorem Part.notify_freeCount (p : Part) (n : Notice) : (p.notify n).freeCount = p.freeCount := rfl

/-! ### Part.notifyOwn -/

@[simp] theorem Part.notifyOwn_station (p : Part) (k : NoticeKind) (v : Option Nat) : (p.notifyOwn k v).station = p.station := rfl
@[simp] theorem Part.notifyOwn_line (p : Part) (k : NoticeKind) (v : Option Nat) : (p.notifyOwn k v).line = p.line := rfl
@[simp] theorem Part.notifyOwn_roster (p : Part) (k : NoticeKind) (v : Option Nat) : (p.notifyOwn k v).roster = p.roster := rfl
@[simp] theorem Part.notifyOwn_ctl (p : Part) (k : NoticeKind) (v : Option Nat) : (p.notifyOwn k v).ctl = p.ctl := rfl
@[simp] theorem Part.notifyOwn_cyc (p : Part) (k : NoticeKind) (v : Option Nat) : (p.notifyOwn k v).cyc = p.cyc := rfl
@[simp] theorem Part.notifyOwn_gate (p : Part) (k : NoticeKind) (v : Option Nat) : (p.notifyOwn k v).gate = p.gate := rfl
@[simp] theorem Part.notifyOwn_sup (p : Part) (k : NoticeKind) (v : Option Nat) : (p.notifyOwn k v).sup = p.sup := rfl
@[simp] theorem Part.notifyOwn_jrn (p : Part) (k : NoticeKind) (v : Option Nat) : (p.notifyOwn k v).jrn = p.jrn := rfl
@[simp] theorem Part.notifyOwn_port (p : Part) (k : NoticeKind) (v : Option Nat) : (p.notifyOwn k v).port = p.port := rfl
@[simp] theorem Part.notifyOwn_inp (p : Part) (k : NoticeKind) (v : Option Nat) : (p.notifyOwn k v).inp = p.inp := rfl
@[simp] theorem Part.notifyOwn_res (p : Part) (k : NoticeKind) (v : Option Nat) : (p.notifyOwn k v).res = p.res := rfl
@[simp] theorem Part.notifyOwn_pins (p : Part) (k : NoticeKind) (v : Option Nat) : (p.notifyOwn k v).pins = p.pins := rfl
@[simp] theorem Part.notifyOwn_freeCount (p : Part) (k : NoticeKind) (v : Option Nat) : (p.notifyOwn k v).freeCount = p.freeCount := rfl

/-! ### Part.notifyFault -/

@[simp] theorem Part.notifyFault_station (p : Part) (f : FaultKind) : (p.notifyFault f).station = p.station := rfl
@[simp] theorem Part.notifyFault_line (p : Part) (f : FaultKind) : (p.notifyFault f).line = p.line := rfl
@[simp] theorem Part.notifyFault_roster (p : Part) (f : FaultKind) : (p.notifyFault f).roster = p.roster := rfl
@[simp] theorem Part.notifyFault_ctl (p : Part) (f : FaultKind) : (p.notifyFault f).ctl = p.ctl := rfl
@[simp] theorem Part.notifyFault_cyc (p : Part) (f : FaultKind) : (p.notifyFault f).cyc = p.cyc := rfl
@[simp] theorem Part.notifyFault_gate (p : Part) (f : FaultKind) : (p.notifyFault f).gate = p.gate := rfl
@[simp] theorem Part.notifyFault_sup (p : Part) (f : FaultKind) : (p.notifyFault f).sup = p.sup := rfl
@[simp] theorem Part.notifyFault_jrn (p : Part) (f : FaultKind) : (p.notifyFault f).jrn = p.jrn := rfl
@[simp] theorem Part.notifyFault_port (p : Part) (f : FaultKind) : (p.notifyFault f).port = p.port := rfl
@[simp] theorem Part.notifyFault_inp (p : Part) (f : FaultKind) : (p.notifyFault f).inp = p.inp := rfl
@[simp] theorem Part.notifyFault_res (p : Part) (f : FaultKind) : (p.notifyFault f).res = p.res := rfl
@[simp] theorem Part.notifyFault_pins (p : Part) (f : FaultKind) : (p.notifyFault f).pins = p.pins := rfl
@[simp] theorem Part.notifyFault_freeCount (p : Part) (f : FaultKind) : (p.notifyFault f).freeCount = p.freeCount := rfl

/-! ### Part.enterStanding -/

@[simp] theorem Part.enterStanding_station (p : Part) (x : Standing) : (p.enterStanding x).station = p.station := rfl
@[simp] theorem Part.enterStanding_line (p : Part) (x : Standing) : (p.enterStanding x).line = p.line := rfl
@[simp] theorem Part.enterStanding_roster (p : Part) (x : Standing) : (p.enterStanding x).roster = p.roster := rfl
@[simp] theorem Part.enterStanding_cyc (p : Part) (x : Standing) : (p.enterStanding x).cyc = p.cyc := rfl
@[simp] theorem Part.enterStanding_gate (p : Part) (x : Standing) : (p.enterStanding x).gate = p.gate := rfl
@[simp] theorem Part.enterStanding_sup (p : Part) (x : Standing) : (p.enterStanding x).sup = p.sup := rfl
@[simp] theorem Part.enterStanding_jrn (p : Part) (x : Standing) : (p.enterStanding x).jrn = p.jrn := rfl
@[simp] theorem Part.enterStanding_port (p : Part) (x : Standing) : (p.enterStanding x).port = p.port := rfl
@[simp] theorem Part.enterStanding_ntc (p : Part) (x : Standing) : (p.enterStanding x).ntc = p.ntc := rfl
@[simp] theorem Part.enterStanding_inp (p : Part) (x : Standing) : (p.enterStanding x).inp = p.inp := rfl
@[simp] theorem Part.enterStanding_res (p : Part) (x : Standing) : (p.enterStanding x).res = p.res := rfl
@[simp] theorem Part.enterStanding_pins (p : Part) (x : Standing) : (p.enterStanding x).pins = p.pins := rfl
@[simp] theorem Part.enterStanding_freeCount (p : Part) (x : Standing) : (p.enterStanding x).freeCount = p.freeCount := rfl

/-! ### Part.changeStanding -/

@[simp] theorem Part.changeStanding_station (p : Part) (x : Standing) : (p.changeStanding x).station = p.station := rfl
@[simp] theorem Part.changeStanding_line (p : Part) (x : Standing) : (p.changeStanding x).line = p.line := rfl
@[simp] theorem Part.changeStanding_roster (p : Part) (x : Standing) : (p.changeStanding x).roster = p.roster := rfl
@[simp] theorem Part.changeStanding_cyc (p : Part) (x : Standing) : (p.changeStanding x).cyc = p.cyc := rfl
@[simp] theorem Part.changeStanding_gate (p : Part) (x : Standing) : (p.changeStanding x).gate = p.gate := rfl
@[simp] theorem Part.changeStanding_sup (p : Part) (x : Standing) : (p.changeStanding x).sup = p.sup := rfl
@[simp] theorem Part.changeStanding_jrn (p : Part) (x : Standing) : (p.changeStanding x).jrn = p.jrn := rfl
@[simp] theorem Part.changeStanding_port (p : Part) (x : Standing) : (p.changeStanding x).port = p.port := rfl
@[simp] theorem Part.changeStanding_inp (p : Part) (x : Standing) : (p.changeStanding x).inp = p.inp := rfl
@[simp] theorem Part.changeStanding_res (p : Part) (x : Standing) : (p.changeStanding x).res = p.res := rfl
@[simp] theorem Part.changeStanding_pins (p : Part) (x : Standing) : (p.changeStanding x).pins = p.pins := rfl
@[simp] theorem Part.changeStanding_freeCount (p : Part) (x : Standing) : (p.changeStanding x).freeCount = p.freeCount := rfl

/-! ### Part.faultStanding -/

@[simp] theorem Part.faultStanding_station (p : Part) (x : Standing) (f : FaultKind) : (p.faultStanding x f).station = p.station := rfl
@[simp] theorem Part.faultStanding_line (p : Part) (x : Standing) (f : FaultKind) : (p.faultStanding x f).line = p.line := rfl
@[simp] theorem Part.faultStanding_roster (p : Part) (x : Standing) (f : FaultKind) : (p.faultStanding x f).roster = p.roster := rfl
@[simp] theorem Part.faultStanding_cyc (p : Part) (x : Standing) (f : FaultKind) : (p.faultStanding x f).cyc = p.cyc := rfl
@[simp] theorem Part.faultStanding_gate (p : Part) (x : Standing) (f : FaultKind) : (p.faultStanding x f).gate = p.gate := rfl
@[simp] theorem Part.faultStanding_sup (p : Part) (x : Standing) (f : FaultKind) : (p.faultStanding x f).sup = p.sup := rfl
@[simp] theorem Part.faultStanding_jrn (p : Part) (x : Standing) (f : FaultKind) : (p.faultStanding x f).jrn = p.jrn := rfl
@[simp] theorem Part.faultStanding_port (p : Part) (x : Standing) (f : FaultKind) : (p.faultStanding x f).port = p.port := rfl
@[simp] theorem Part.faultStanding_inp (p : Part) (x : Standing) (f : FaultKind) : (p.faultStanding x f).inp = p.inp := rfl
@[simp] theorem Part.faultStanding_res (p : Part) (x : Standing) (f : FaultKind) : (p.faultStanding x f).res = p.res := rfl
@[simp] theorem Part.faultStanding_pins (p : Part) (x : Standing) (f : FaultKind) : (p.faultStanding x f).pins = p.pins := rfl
@[simp] theorem Part.faultStanding_freeCount (p : Part) (x : Standing) (f : FaultKind) : (p.faultStanding x f).freeCount = p.freeCount := rfl

/-! ### Part.onDuplicateStation -/

@[simp] theorem Part.onDuplicateStation_station (p : Part) : p.onDuplicateStation.station = p.station := by
  unfold Part.onDuplicateStation; (try dsimp only); repeat' split
  all_goals simp
@[simp] theorem Part.onDuplicateStation_line (p : Part) : p.onDuplicateStation.line = p.line := by
  unfold Part.onDuplicateStation; (try dsimp only); repeat' split
  all_goals simp
@[simp] theorem Part.onDuplicateStation_roster (p : Part) : p.onDuplicateStation.roster = p.roster := by
  unfold Part.onDuplicateStation; (try dsimp only); repeat' split
  all_goals simp
@[simp] theorem Part.onDuplicateStation_cyc (p : Part) : p.onDuplicateStation.cyc = p.cyc := by
  unfold Part.onDuplicateStation; (try dsimp only); repeat' split
  all_goals simp
@[simp] theorem Part.onDuplicateStation_gate (p : Part) : p.onDuplicateStation.gate = p.gate := by
  unfold Part.onDuplicateStation; (try dsimp only); repeat' split
  all_goals simp
@[simp] theorem Part.onDuplicateStation_sup (p : Part) : p.onDuplicateStation.sup = p.sup := by
  unfold Part.onDuplicateStation; (try dsimp only); repeat' split
  all_goals simp
@[simp] theorem Part.onDuplicateStation_jrn (p : Part) : p.onDuplicateStation.jrn = p.jrn := by
  unfold Part.onDuplicateStation; (try dsimp only); repeat' split
  all_goals simp
@[simp] theorem Part.onDuplicateStation_port (p : Part) : p.onDuplicateStation.port = p.port := by
  unfold Part.onDuplicateStation; (try dsimp only); repeat' split
  all_goals simp
@[simp] theorem Part.onDuplicateStation_inp (p : Part) : p.onDuplicateStation.inp = p.inp := by
  unfold Part.onDuplicateStation; (try dsimp only); repeat' split
  all_goals simp
@[simp] theorem Part.onDuplicateStation_res (p : Part) : p.onDuplicateStation.res = p.res := by
  unfold Part.onDuplicateStation; (try dsimp only); repeat' split
  all_goals simp
@[simp] theorem Part.onDuplicateStation_pins (p : Part) : p.onDuplicateStation.pins = p.pins := by
  unfold Part.onDuplicateStation; (try dsimp only); repeat' split
  all_goals simp
@[simp] theorem Part.onDuplicateStation_freeCount (p : Part) : p.onDuplicateStation.freeCount = p.freeCount := by
  unfold Part.onDuplicateStation; (try dsimp only); repeat' split
  all_goals simp

/-! ### Part.onLineStuck -/

@[simp] theorem Part.onLineStuck_station (p : Part) : p.onLineStuck.station = p.station := by
  unfold Part.onLineStuck; (try dsimp only); repeat' split
  all_goals simp
@[simp] theorem Part.onLineStuck_line (p : Part) : p.onLineStuck.line = p.line := by
  unfold Part.onLineStuck; (try dsimp only); repeat' split
  all_goals simp
@[simp] theorem Part.onLineStuck_roster (p : Part) : p.onLineStuck.roster = p.roster := by
  unfold Part.onLineStuck; (try dsimp only); repeat' split
  all_goals simp
@[simp] theorem Part.onLineStuck_cyc (p : Part) : p.onLineStuck.cyc = p.cyc := by
  unfold Part.onLineStuck; (try dsimp only); repeat' split
  all_goals simp
@[simp] theorem Part.onLineStuck_gate (p : Part) : p.onLineStuck.gate = p.gate := by
  unfold Part.onLineStuck; (try dsimp only); repeat' split
  all_goals simp
@[simp] theorem Part.onLineStuck_sup (p : Part) : p.onLineStuck.sup = p.sup := by
  unfold Part.onLineStuck; (try dsimp only); repeat' split
  all_goals simp
@[simp] theorem Part.onLineStuck_jrn (p : Part) : p.onLineStuck.jrn = p.jrn := by
  unfold Part.onLineStuck; (try dsimp only); repeat' split
  all_goals simp
@[simp] theorem Part.onLineStuck_port (p : Part) : p.onLineStuck.port = p.port := by
  unfold Part.onLineStuck; (try dsimp only); repeat' split
  all_goals simp
@[simp] theorem Part.onLineStuck_inp (p : Part) : p.onLineStuck.inp = p.inp := by
  unfold Part.onLineStuck; (try dsimp only); repeat' split
  all_goals simp
@[simp] theorem Part.onLineStuck_res (p : Part) : p.onLineStuck.res = p.res := by
  unfold Part.onLineStuck; (try dsimp only); repeat' split
  all_goals simp
@[simp] theorem Part.onLineStuck_pins (p : Part) : p.onLineStuck.pins = p.pins := by
  unfold Part.onLineStuck; (try dsimp only); repeat' split
  all_goals simp
@[simp] theorem Part.onLineStuck_freeCount (p : Part) : p.onLineStuck.freeCount = p.freeCount := by
  unfold Part.onLineStuck; (try dsimp only); repeat' split
  all_goals simp

/-! ### Part.onScoreHigh -/

@[simp] theorem Part.onScoreHigh_station (p : Part) : p.onScoreHigh.station = p.station := by
  unfold Part.onScoreHigh; (try dsimp only); repeat' split
  all_goals simp
@[simp] theorem Part.onScoreHigh_line (p : Part) : p.onScoreHigh.line = p.line := by
  unfold Part.onScoreHigh; (try dsimp only); repeat' split
  all_goals simp
@[simp] theorem Part.onScoreHigh_roster (p : Part) : p.onScoreHigh.roster = p.roster := by
  unfold Part.onScoreHigh; (try dsimp only); repeat' split
  all_goals simp
@[simp] theorem Part.onScoreHigh_cyc (p : Part) : p.onScoreHigh.cyc = p.cyc := by
  unfold Part.onScoreHigh; (try dsimp only); repeat' split
  all_goals simp
@[simp] theorem Part.onScoreHigh_gate (p : Part) : p.onScoreHigh.gate = p.gate := by
  unfold Part.onScoreHigh; (try dsimp only); repeat' split
  all_goals simp
@[simp] theorem Part.onScoreHigh_sup (p : Part) : p.onScoreHigh.sup = p.sup := by
  unfold Part.onScoreHigh; (try dsimp only); repeat' split
  all_goals simp
@[simp] theorem Part.onScoreHigh_jrn (p : Part) : p.onScoreHigh.jrn = p.jrn := by
  unfold Part.onScoreHigh; (try dsimp only); repeat' split
  all_goals simp
@[simp] theorem Part.onScoreHigh_port (p : Part) : p.onScoreHigh.port = p.port := by
  unfold Part.onScoreHigh; (try dsimp only); repeat' split
  all_goals simp
@[simp] theorem Part.onScoreHigh_inp (p : Part) : p.onScoreHigh.inp = p.inp := by
  unfold Part.onScoreHigh; (try dsimp only); repeat' split
  all_goals simp
@[simp] theorem Part.onScoreHigh_res (p : Part) : p.onScoreHigh.res = p.res := by
  unfold Part.onScoreHigh; (try dsimp only); repeat' split
  all_goals simp
@[simp] theorem Part.onScoreHigh_pins (p : Part) : p.onScoreHigh.pins = p.pins := by
  unfold Part.onScoreHigh; (try dsimp only); repeat' split
  all_goals simp
@[simp] theorem Part.onScoreHigh_freeCount (p : Part) : p.onScoreHigh.freeCount = p.freeCount := by
  unfold Part.onScoreHigh; (try dsimp only); repeat' split
  all_goals simp

/-! ### Part.scoreError -/

@[simp] theorem Part.scoreError_station (p : Part) : p.scoreError.station = p.station := by
  unfold Part.scoreError; (try dsimp only); repeat' split
  all_goals simp
@[simp] theorem Part.scoreError_roster (p : Part) : p.scoreError.roster = p.roster := by
  unfold Part.scoreError; (try dsimp only); repeat' split
  all_goals simp
@[simp] theorem Part.scoreError_cyc (p : Part) : p.scoreError.cyc = p.cyc := by
  unfold Part.scoreError; (try dsimp only); repeat' split
  all_goals simp
@[simp] theorem Part.scoreError_gate (p : Part) : p.scoreError.gate = p.gate := by
  unfold Part.scoreError; (try dsimp only); repeat' split
  all_goals simp
@[simp] theorem Part.scoreError_sup (p : Part) : p.scoreError.sup = p.sup := by
  unfold Part.scoreError; (try dsimp only); repeat' split
  all_goals simp
@[simp] theorem Part.scoreError_jrn (p : Part) : p.scoreError.jrn = p.jrn := by
  unfold Part.scoreError; (try dsimp only); repeat' split
  all_goals simp
@[simp] theorem Part.scoreError_port (p : Part) : p.scoreError.port = p.port := by
  unfold Part.scoreError; (try dsimp only); repeat' split
  all_goals simp
@[simp] theorem Part.scoreError_inp (p : Part) : p.scoreError.inp = p.inp := by
  unfold Part.scoreError; (try dsimp only); repeat' split
  all_goals simp
@[simp] theorem Part.scoreError_res (p : Part) : p.scoreError.res = p.res := by
  unfold Part.scoreError; (try dsimp only); repeat' split
  all_goals simp
@[simp] theorem Part.scoreError_pins (p : Part) : p.scoreError.pins = p.pins := by
  unfold Part.scoreError; (try dsimp only); repeat' split
  all_goals simp
@[simp] theorem Part.scoreError_freeCount (p : Part) : p.scoreError.freeCount = p.freeCount := by
  unfold Part.scoreError; (try dsimp only); repeat' split
  all_goals simp

/-! ### Part.scoreClean -/

@[simp] theorem Part.scoreClean_station (p : Part) : p.scoreClean.station = p.station := by
  unfold Part.scoreClean; (try dsimp only); repeat' split
  all_goals simp
@[simp] theorem Part.scoreClean_roster (p : Part) : p.scoreClean.roster = p.roster := by
  unfold Part.scoreClean; (try dsimp only); repeat' split
  all_goals simp
@[simp] theorem Part.scoreClean_cyc (p : Part) : p.scoreClean.cyc = p.cyc := by
  unfold Part.scoreClean; (try dsimp only); repeat' split
  all_goals simp
@[simp] theorem Part.scoreClean_gate (p : Part) : p.scoreClean.gate = p.gate := by
  unfold Part.scoreClean; (try dsimp only); repeat' split
  all_goals simp
@[simp] theorem Part.scoreClean_sup (p : Part) : p.scoreClean.sup = p.sup := by
  unfold Part.scoreClean; (try dsimp only); repeat' split
  all_goals simp
@[simp] theorem Part.scoreClean_jrn (p : Part) : p.scoreClean.jrn = p.jrn := by
  unfold Part.scoreClean; (try dsimp only); repeat' split
  all_goals simp
@[simp] theorem Part.scoreClean_port (p : Part) : p.scoreClean.port = p.port := by
  unfold Part.scoreClean; (try dsimp only); repeat' split
  all_goals simp
@[simp] theorem Part.scoreClean_inp (p : Part) : p.scoreClean.inp = p.inp := by
  unfold Part.scoreClean; (try dsimp only); repeat' split
  all_goals simp
@[simp] theorem Part.scoreClean_res (p : Part) : p.scoreClean.res = p.res := by
  unfold Part.scoreClean; (try dsimp only); repeat' split
  all_goals simp
@[simp] theorem Part.scoreClean_pins (p : Part) : p.scoreClean.pins = p.pins := by
  unfold Part.scoreClean; (try dsimp only); repeat' split
  all_goals simp
@[simp] theorem Part.scoreClean_freeCount (p : Part) : p.scoreClean.freeCount = p.freeCount := by
  unfold Part.scoreClean; (try dsimp only); repeat' split
  all_goals simp

/-! ### Part.onExcess -/

@[simp] theorem Part.onExcess_station (p : Part) (n : Nat) : (p.onExcess n).station = p.station := by
  unfold Part.onExcess; (try dsimp only); repeat' split
  all_goals simp
@[simp] theorem Part.onExcess_line (p : Part) (n : Nat) : (p.onExcess n).line = p.line := by
  unfold Part.onExcess; (try dsimp only); repeat' split
  all_goals simp
@[simp] theorem Part.onExcess_roster (p : Part) (n : Nat) : (p.onExcess n).roster = p.roster := by
  unfold Part.onExcess; (try dsimp only); repeat' split
  all_goals simp
@[simp] theorem Part.onExcess_cyc (p : Part) (n : Nat) : (p.onExcess n).cyc = p.cyc := by
  unfold Part.onExcess; (try dsimp only); repeat' split
  all_goals simp
@[simp] theorem Part.onExcess_gate (p : Part) (n : Nat) : (p.onExcess n).gate = p.gate := by
  unfold Part.onExcess; (try dsimp only); repeat' split
  all_goals simp
@[simp] theorem Part.onExcess_sup (p : Part) (n : Nat) : (p.onExcess n).sup = p.sup := by
  unfold Part.onExcess; (try dsimp only); repeat' split
  all_goals simp
@[simp] theorem Part.onExcess_jrn (p : Part) (n : Nat) : (p.onExcess n).jrn = p.jrn := by
  unfold Part.onExcess; (try dsimp only); repeat' split
  all_goals simp
@[simp] theorem Part.onExcess_port (p : Part) (n : Nat) : (p.onExcess n).port = p.port := by
  unfold Part.onExcess; (try dsimp only); repeat' split
  all_goals simp
@[simp] theorem Part.onExcess_inp (p : Part) (n : Nat) : (p.onExcess n).inp = p.inp := by
  unfold Part.onExcess; (try dsimp only); repeat' split
  all_goals simp
@[simp] theorem Part.onExcess_res (p : Part) (n : Nat) : (p.onExcess n).res = p.res := by
  unfold Part.onExcess; (try dsimp only); repeat' split
  all_goals simp
@[simp] theorem Part.onExcess_pins (p : Part) (n : Nat) : (p.onExcess n).pins = p.pins := by
  unfold Part.onExcess; (try dsimp only); repeat' split
  all_goals simp
@[simp] theorem Part.onExcess_freeCount (p : Part) (n : Nat) : (p.onExcess n).freeCount = p.freeCount := by
  unfold Part.onExcess; (try dsimp only); repeat' split
  all_goals simp

/-! ### Part.excessCheck -/

@[simp] theorem Part.excessCheck_station (p : Part) : p.excessCheck.station = p.station := by
  unfold Part.excessCheck; (try dsimp only); repeat' split
  all_goals simp
@[simp] theorem Part.excessCheck_line (p : Part) : p.excessCheck.line = p.line := by
  unfold Part.excessCheck; (try dsimp only); repeat' split
  all_goals simp
@[simp] theorem Part.excessCheck_roster (p : Part) : p.excessCheck.roster = p.roster := by
  unfold Part.excessCheck; (try dsimp only); repeat' split
  all_goals simp
@[simp] theorem Part.excessCheck_cyc (p : Part) : p.excessCheck.cyc = p.cyc := by
  unfold Part.excessCheck; (try dsimp only); repeat' split
  all_goals simp
@[simp] theorem Part.excessCheck_gate (p : Part) : p.excessCheck.gate = p.gate := by
  unfold Part.excessCheck; (try dsimp only); repeat' split
  all_goals simp
@[simp] theorem Part.excessCheck_sup (p : Part) : p.excessCheck.sup = p.sup := by
  unfold Part.excessCheck; (try dsimp only); repeat' split
  all_goals simp
@[simp] theorem Part.excessCheck_jrn (p : Part) : p.excessCheck.jrn = p.jrn := by
  unfold Part.excessCheck; (try dsimp only); repeat' split
  all_goals simp
@[simp] theorem Part.excessCheck_port (p : Part) : p.excessCheck.port = p.port := by
  unfold Part.excessCheck; (try dsimp only); repeat' split
  all_goals simp
@[simp] theorem Part.excessCheck_inp (p : Part) : p.excessCheck.inp = p.inp := by
  unfold Part.excessCheck; (try dsimp only); repeat' split
  all_goals simp
@[simp] theorem Part.excessCheck_res (p : Part) : p.excessCheck.res = p.res := by
  unfold Part.excessCheck; (try dsimp only); repeat' split
  all_goals simp
@[simp] theorem Part.excessCheck_pins (p : Part) : p.excessCheck.pins = p.pins := by
  unfold Part.excessCheck; (try dsimp only); repeat' split
  all_goals simp
@[simp] theorem Part.excessCheck_freeCount (p : Part) : p.excessCheck.freeCount = p.freeCount := by
  unfold Part.excessCheck; (try dsimp only); repeat' split
  all_goals simp

/-! ### Part.setConfig -/

@[simp] theorem Part.setConfig_station (p : Part) (c : Option Configuration) : (p.setConfig c).station = p.station := by
  unfold Part.setConfig; (try dsimp only); repeat' split
  all_goals simp
@[simp] theorem Part.setConfig_line (p : Part) (c : Option Configuration) : (p.setConfig c).line = p.line := by
  unfold Part.setConfig; (try dsimp only); repeat' split
  all_goals simp
@[simp] theorem Part.setConfig_roster (p : Part) (c : Option Configuration) : (p.setConfig c).roster = p.roster := by
  unfold Part.setConfig; (try dsimp only); repeat' split
  all_goals simp
@[simp] theorem Part.setConfig_cyc (p : Part) (c : Option Configuration) : (p.setConfig c).cyc = p.cyc := by
  unfold Part.setConfig; (try dsimp only); repeat' split
  all_goals simp
@[simp] theorem Part.setConfig_gate (p : Part) (c : Option Configuration) : (p.setConfig c).gate = p.gate := by
  unfold Part.setConfig; (try dsimp only); repeat' split
  all_goals simp
@[simp] theorem Part.setConfig_sup (p : Part) (c : Option Configuration) : (p.setConfig c).sup = p.sup := by
  unfold Part.setConfig; (try dsimp only); repeat' split
  all_goals simp
@[simp] theorem Part.setConfig_jrn (p : Part) (c : Option Configuration) : (p.setConfig c).jrn = p.jrn := by
  unfold Part.setConfig; (try dsimp only); repeat' split
  all_goals simp
@[simp] theorem Part.setConfig_port (p : Part) (c : Option Configuration) : (p.setConfig c).port = p.port := by
  unfold Part.setConfig; (try dsimp only); repeat' split
  all_goals simp
@[simp] theorem Part.setConfig_inp (p : Part) (c : Option Configuration) : (p.setConfig c).inp = p.inp := by
  unfold Part.setConfig; (try dsimp only); repeat' split
  all_goals simp
@[simp] theorem Part.setConfig_res (p : Part) (c : Option Configuration) : (p.setConfig c).res = p.res := by
  unfold Part.setConfig; (try dsimp only); repeat' split
  all_goals simp
@[simp] theorem Part.setConfig_pins (p : Part) (c : Option Configuration) : (p.setConfig c).pins = p.pins := by
  unfold Part.setConfig; (try dsimp only); repeat' split
  all_goals simp
@[simp] theorem Part.setConfig_freeCount (p : Part) (c : Option Configuration) : (p.setConfig c).freeCount = p.freeCount := by
  unfold Part.setConfig; (try dsimp only); repeat' split
  all_goals simp

/-! ### Part.beginWrite -/

@[simp] theorem Part.beginWrite_station (p : Part) (c : Configuration) : (p.beginWrite c).station = p.station := rfl
@[simp] theorem Part.beginWrite_line (p : Part) (c : Configuration) : (p.beginWrite c).line = p.line := rfl
@[simp] theorem Part.beginWrite_roster (p : Part) (c : Configuration) : (p.beginWrite c).roster = p.roster := rfl
@[simp] theorem Part.beginWrite_ctl (p : Part) (c : Configuration) : (p.beginWrite c).ctl = p.ctl := rfl
@[simp] theorem Part.beginWrite_cyc (p : Part) (c : Configuration) : (p.beginWrite c).cyc = p.cyc := rfl
@[simp] theorem Part.beginWrite_gate (p : Part) (c : Configuration) : (p.beginWrite c).gate = p.gate := rfl
@[simp] theorem Part.beginWrite_sup (p : Part) (c : Configuration) : (p.beginWrite c).sup = p.sup := rfl
@[simp] theorem Part.beginWrite_port (p : Part) (c : Configuration) : (p.beginWrite c).port = p.port := rfl
@[simp] theorem Part.beginWrite_ntc (p : Part) (c : Configuration) : (p.beginWrite c).ntc = p.ntc := rfl
@[simp] theorem Part.beginWrite_inp (p : Part) (c : Configuration) : (p.beginWrite c).inp = p.inp := rfl
@[simp] theorem Part.beginWrite_res (p : Part) (c : Configuration) : (p.beginWrite c).res = p.res := rfl
@[simp] theorem Part.beginWrite_pins (p : Part) (c : Configuration) : (p.beginWrite c).pins = p.pins := rfl
@[simp] theorem Part.beginWrite_freeCount (p : Part) (c : Configuration) : (p.beginWrite c).freeCount = p.freeCount := rfl

/-! ### Part.requestCheckpoint -/

@[simp] theorem Part.requestCheckpoint_station (p : Part) : p.requestCheckpoint.station = p.station := by
  unfold Part.requestCheckpoint; (try dsimp only); repeat' split
  all_goals simp
@[simp] theorem Part.requestCheckpoint_line (p : Part) : p.requestCheckpoint.line = p.line := by
  unfold Part.requestCheckpoint; (try dsimp only); repeat' split
  all_goals simp
@[simp] theorem Part.requestCheckpoint_roster (p : Part) : p.requestCheckpoint.roster = p.roster := by
  unfold Part.requestCheckpoint; (try dsimp only); repeat' split
  all_goals simp
@[simp] theorem Part.requestCheckpoint_ctl (p : Part) : p.requestCheckpoint.ctl = p.ctl := by
  unfold Part.requestCheckpoint; (try dsimp only); repeat' split
  all_goals simp
@[simp] theorem Part.requestCheckpoint_cyc (p : Part) : p.requestCheckpoint.cyc = p.cyc := by
  unfold Part.requestCheckpoint; (try dsimp only); repeat' split
  all_goals simp
@[simp] theorem Part.requestCheckpoint_gate (p : Part) : p.requestCheckpoint.gate = p.gate := by
  unfold Part.requestCheckpoint; (try dsimp only); repeat' split
  all_goals simp
@[simp] theorem Part.requestCheckpoint_sup (p : Part) : p.requestCheckpoint.sup = p.sup := by
  unfold Part.requestCheckpoint; (try dsimp only); repeat' split
  all_goals simp
@[simp] theorem Part.requestCheckpoint_port (p : Part) : p.requestCheckpoint.port = p.port := by
  unfold Part.requestCheckpoint; (try dsimp only); repeat' split
  all_goals simp
@[simp] theorem Part.requestCheckpoint_ntc (p : Part) : p.requestCheckpoint.ntc = p.ntc := by
  unfold Part.requestCheckpoint; (try dsimp only); repeat' split
  all_goals simp
@[simp] theorem Part.requestCheckpoint_inp (p : Part) : p.requestCheckpoint.inp = p.inp := by
  unfold Part.requestCheckpoint; (try dsimp only); repeat' split
  all_goals simp
@[simp] theorem Part.requestCheckpoint_res (p : Part) : p.requestCheckpoint.res = p.res := by
  unfold Part.requestCheckpoint; (try dsimp only); repeat' split
  all_goals simp
@[simp] theorem Part.requestCheckpoint_pins (p : Part) : p.requestCheckpoint.pins = p.pins := by
  unfold Part.requestCheckpoint; (try dsimp only); repeat' split
  all_goals simp
@[simp] theorem Part.requestCheckpoint_freeCount (p : Part) : p.requestCheckpoint.freeCount = p.freeCount := by
  unfold Part.requestCheckpoint; (try dsimp only); repeat' split
  all_goals simp

/-! ### Part.completeStartRead -/

@[simp] theorem Part.completeStartRead_station (p : Part) : p.completeStartRead.station = p.station := by
  unfold Part.completeStartRead; dsimp only; split <;> rfl
@[simp] theorem Part.completeStartRead_line (p : Part) : p.completeStartRead.line = p.line := by
  unfold Part.completeStartRead; dsimp only; split <;> rfl
@[simp] theorem Part.completeStartRead_roster (p : Part) : p.completeStartRead.roster = p.roster := by
  unfold Part.completeStartRead; dsimp only; split <;> rfl
@[simp] theorem Part.completeStartRead_ctl (p : Part) : p.completeStartRead.ctl = p.ctl := by
  unfold Part.completeStartRead; dsimp only; split <;> rfl
@[simp] theorem Part.completeStartRead_cyc (p : Part) : p.completeStartRead.cyc = p.cyc := by
  unfold Part.completeStartRead; dsimp only; split <;> rfl
@[simp] theorem Part.completeStartRead_gate (p : Part) : p.completeStartRead.gate = p.gate := by
  unfold Part.completeStartRead; dsimp only; split <;> rfl
@[simp] theorem Part.completeStartRead_sup (p : Part) : p.completeStartRead.sup = p.sup := by
  unfold Part.completeStartRead; dsimp only; split <;> rfl
@[simp] theorem Part.completeStartRead_port (p : Part) : p.completeStartRead.port = p.port := by
  unfold Part.completeStartRead; dsimp only; split <;> rfl
@[simp] theorem Part.completeStartRead_inp (p : Part) : p.completeStartRead.inp = p.inp := by
  unfold Part.completeStartRead; dsimp only; split <;> rfl
@[simp] theorem Part.completeStartRead_res (p : Part) : p.completeStartRead.res = p.res := by
  unfold Part.completeStartRead; dsimp only; split <;> rfl
@[simp] theorem Part.completeStartRead_pins (p : Part) : p.completeStartRead.pins = p.pins := by
  unfold Part.completeStartRead; dsimp only; split <;> rfl
@[simp] theorem Part.completeStartRead_freeCount (p : Part) : p.completeStartRead.freeCount = p.freeCount := by
  unfold Part.completeStartRead; dsimp only; split <;> rfl

/-! ### Part.answer -/

@[simp] theorem Part.answer_station (p : Part) (c : ResultCode) (d : List Byte) : (p.answer c d).station = p.station := rfl
@[simp] theorem Part.answer_line (p : Part) (c : ResultCode) (d : List Byte) : (p.answer c d).line = p.line := rfl
@[simp] theorem Part.answer_roster (p : Part) (c : ResultCode) (d : List Byte) : (p.answer c d).roster = p.roster := rfl
@[simp] theorem Part.answer_ctl (p : Part) (c : ResultCode) (d : List Byte) : (p.answer c d).ctl = p.ctl := rfl
@[simp] theorem Part.answer_cyc (p : Part) (c : ResultCode) (d : List Byte) : (p.answer c d).cyc = p.cyc := rfl
@[simp] theorem Part.answer_gate (p : Part) (c : ResultCode) (d : List Byte) : (p.answer c d).gate = p.gate := rfl
@[simp] theorem Part.answer_sup (p : Part) (c : ResultCode) (d : List Byte) : (p.answer c d).sup = p.sup := rfl
@[simp] theorem Part.answer_jrn (p : Part) (c : ResultCode) (d : List Byte) : (p.answer c d).jrn = p.jrn := rfl
@[simp] theorem Part.answer_ntc (p : Part) (c : ResultCode) (d : List Byte) : (p.answer c d).ntc = p.ntc := rfl
@[simp] theorem Part.answer_inp (p : Part) (c : ResultCode) (d : List Byte) : (p.answer c d).inp = p.inp := rfl
@[simp] theorem Part.answer_res (p : Part) (c : ResultCode) (d : List Byte) : (p.answer c d).res = p.res := rfl
@[simp] theorem Part.answer_pins (p : Part) (c : ResultCode) (d : List Byte) : (p.answer c d).pins = p.pins := rfl
@[simp] theorem Part.answer_freeCount (p : Part) (c : ResultCode) (d : List Byte) : (p.answer c d).freeCount = p.freeCount := rfl

/-! ### Part.answerCheckpoint -/

@[simp] theorem Part.answerCheckpoint_station (p : Part) : p.answerCheckpoint.station = p.station := rfl
@[simp] theorem Part.answerCheckpoint_line (p : Part) : p.answerCheckpoint.line = p.line := rfl
@[simp] theorem Part.answerCheckpoint_roster (p : Part) : p.answerCheckpoint.roster = p.roster := rfl
@[simp] theorem Part.answerCheckpoint_ctl (p : Part) : p.answerCheckpoint.ctl = p.ctl := rfl
@[simp] theorem Part.answerCheckpoint_cyc (p : Part) : p.answerCheckpoint.cyc = p.cyc := rfl
@[simp] theorem Part.answerCheckpoint_gate (p : Part) : p.answerCheckpoint.gate = p.gate := rfl
@[simp] theorem Part.answerCheckpoint_sup (p : Part) : p.answerCheckpoint.sup = p.sup := rfl
@[simp] theorem Part.answerCheckpoint_jrn (p : Part) : p.answerCheckpoint.jrn = p.jrn := rfl
@[simp] theorem Part.answerCheckpoint_ntc (p : Part) : p.answerCheckpoint.ntc = p.ntc := rfl
@[simp] theorem Part.answerCheckpoint_inp (p : Part) : p.answerCheckpoint.inp = p.inp := rfl
@[simp] theorem Part.answerCheckpoint_res (p : Part) : p.answerCheckpoint.res = p.res := rfl
@[simp] theorem Part.answerCheckpoint_pins (p : Part) : p.answerCheckpoint.pins = p.pins := rfl
@[simp] theorem Part.answerCheckpoint_freeCount (p : Part) : p.answerCheckpoint.freeCount = p.freeCount := rfl

/-! ### Part.finishStartRead -/

@[simp] theorem Part.finishStartRead_station (p : Part) : p.finishStartRead.station = p.station := by
  unfold Part.finishStartRead; (try dsimp only); repeat' split
  all_goals simp
@[simp] theorem Part.finishStartRead_line (p : Part) : p.finishStartRead.line = p.line := by
  unfold Part.finishStartRead; (try dsimp only); repeat' split
  all_goals simp
@[simp] theorem Part.finishStartRead_roster (p : Part) : p.finishStartRead.roster = p.roster := by
  unfold Part.finishStartRead; (try dsimp only); repeat' split
  all_goals simp
@[simp] theorem Part.finishStartRead_ctl (p : Part) : p.finishStartRead.ctl = p.ctl := by
  unfold Part.finishStartRead; (try dsimp only); repeat' split
  all_goals simp
@[simp] theorem Part.finishStartRead_cyc (p : Part) : p.finishStartRead.cyc = p.cyc := by
  unfold Part.finishStartRead; (try dsimp only); repeat' split
  all_goals simp
@[simp] theorem Part.finishStartRead_gate (p : Part) : p.finishStartRead.gate = p.gate := by
  unfold Part.finishStartRead; (try dsimp only); repeat' split
  all_goals simp
@[simp] theorem Part.finishStartRead_sup (p : Part) : p.finishStartRead.sup = p.sup := by
  unfold Part.finishStartRead; (try dsimp only); repeat' split
  all_goals simp
@[simp] theorem Part.finishStartRead_inp (p : Part) : p.finishStartRead.inp = p.inp := by
  unfold Part.finishStartRead; (try dsimp only); repeat' split
  all_goals simp
@[simp] theorem Part.finishStartRead_res (p : Part) : p.finishStartRead.res = p.res := by
  unfold Part.finishStartRead; (try dsimp only); repeat' split
  all_goals simp
@[simp] theorem Part.finishStartRead_pins (p : Part) : p.finishStartRead.pins = p.pins := by
  unfold Part.finishStartRead; (try dsimp only); repeat' split
  all_goals simp
@[simp] theorem Part.finishStartRead_freeCount (p : Part) : p.finishStartRead.freeCount = p.freeCount := by
  unfold Part.finishStartRead; (try dsimp only); repeat' split
  all_goals simp

/-! ### Part.holdRequest -/

@[simp] theorem Part.holdRequest_station (p : Part) (r : HeldRequest) : (p.holdRequest r).station = p.station := rfl
@[simp] theorem Part.holdRequest_line (p : Part) (r : HeldRequest) : (p.holdRequest r).line = p.line := rfl
@[simp] theorem Part.holdRequest_roster (p : Part) (r : HeldRequest) : (p.holdRequest r).roster = p.roster := rfl
@[simp] theorem Part.holdRequest_ctl (p : Part) (r : HeldRequest) : (p.holdRequest r).ctl = p.ctl := rfl
@[simp] theorem Part.holdRequest_cyc (p : Part) (r : HeldRequest) : (p.holdRequest r).cyc = p.cyc := rfl
@[simp] theorem Part.holdRequest_gate (p : Part) (r : HeldRequest) : (p.holdRequest r).gate = p.gate := rfl
@[simp] theorem Part.holdRequest_sup (p : Part) (r : HeldRequest) : (p.holdRequest r).sup = p.sup := rfl
@[simp] theorem Part.holdRequest_jrn (p : Part) (r : HeldRequest) : (p.holdRequest r).jrn = p.jrn := rfl
@[simp] theorem Part.holdRequest_ntc (p : Part) (r : HeldRequest) : (p.holdRequest r).ntc = p.ntc := rfl
@[simp] theorem Part.holdRequest_inp (p : Part) (r : HeldRequest) : (p.holdRequest r).inp = p.inp := rfl
@[simp] theorem Part.holdRequest_res (p : Part) (r : HeldRequest) : (p.holdRequest r).res = p.res := rfl
@[simp] theorem Part.holdRequest_pins (p : Part) (r : HeldRequest) : (p.holdRequest r).pins = p.pins := rfl
@[simp] theorem Part.holdRequest_freeCount (p : Part) (r : HeldRequest) : (p.holdRequest r).freeCount = p.freeCount := rfl

/-! ### Part.changePhase -/

@[simp] theorem Part.changePhase_station (p : Part) (x : Phase) : (p.changePhase x).station = p.station := by simp [Part.changePhase]
@[simp] theorem Part.changePhase_line (p : Part) (x : Phase) : (p.changePhase x).line = p.line := by simp [Part.changePhase]
@[simp] theorem Part.changePhase_roster (p : Part) (x : Phase) : (p.changePhase x).roster = p.roster := by simp [Part.changePhase]
@[simp] theorem Part.changePhase_ctl (p : Part) (x : Phase) : (p.changePhase x).ctl = p.ctl := by simp [Part.changePhase]
@[simp] theorem Part.changePhase_gate (p : Part) (x : Phase) : (p.changePhase x).gate = p.gate := by simp [Part.changePhase]
@[simp] theorem Part.changePhase_sup (p : Part) (x : Phase) : (p.changePhase x).sup = p.sup := by simp [Part.changePhase]
@[simp] theorem Part.changePhase_port (p : Part) (x : Phase) : (p.changePhase x).port = p.port := by simp [Part.changePhase]
@[simp] theorem Part.changePhase_inp (p : Part) (x : Phase) : (p.changePhase x).inp = p.inp := by simp [Part.changePhase]
@[simp] theorem Part.changePhase_res (p : Part) (x : Phase) : (p.changePhase x).res = p.res := by simp [Part.changePhase]
@[simp] theorem Part.changePhase_pins (p : Part) (x : Phase) : (p.changePhase x).pins = p.pins := by simp [Part.changePhase]
@[simp] theorem Part.changePhase_freeCount (p : Part) (x : Phase) : (p.changePhase x).freeCount = p.freeCount := by simp [Part.changePhase]

/-! ### Part.endCycle -/

@[simp] theorem Part.endCycle_station (p : Part) (x : CycleOutcome) : (p.endCycle x).station = p.station := by simp [Part.endCycle]
@[simp] theorem Part.endCycle_line (p : Part) (x : CycleOutcome) : (p.endCycle x).line = p.line := by simp [Part.endCycle]
@[simp] theorem Part.endCycle_roster (p : Part) (x : CycleOutcome) : (p.endCycle x).roster = p.roster := by simp [Part.endCycle]
@[simp] theorem Part.endCycle_ctl (p : Part) (x : CycleOutcome) : (p.endCycle x).ctl = p.ctl := by simp [Part.endCycle]
@[simp] theorem Part.endCycle_gate (p : Part) (x : CycleOutcome) : (p.endCycle x).gate = p.gate := by simp [Part.endCycle]
@[simp] theorem Part.endCycle_sup (p : Part) (x : CycleOutcome) : (p.endCycle x).sup = p.sup := by simp [Part.endCycle]
@[simp] theorem Part.endCycle_port (p : Part) (x : CycleOutcome) : (p.endCycle x).port = p.port := by simp [Part.endCycle]
@[simp] theorem Part.endCycle_inp (p : Part) (x : CycleOutcome) : (p.endCycle x).inp = p.inp := by simp [Part.endCycle]
@[simp] theorem Part.endCycle_res (p : Part) (x : CycleOutcome) : (p.endCycle x).res = p.res := by simp [Part.endCycle]
@[simp] theorem Part.endCycle_pins (p : Part) (x : CycleOutcome) : (p.endCycle x).pins = p.pins := by simp [Part.endCycle]
@[simp] theorem Part.endCycle_freeCount (p : Part) (x : CycleOutcome) : (p.endCycle x).freeCount = p.freeCount := by simp [Part.endCycle]

/-! ### Part.haltCycle -/

@[simp] theorem Part.haltCycle_station (p : Part) (f : FaultKind) : (p.haltCycle f).station = p.station := by simp [Part.haltCycle]
@[simp] theorem Part.haltCycle_line (p : Part) (f : FaultKind) : (p.haltCycle f).line = p.line := by simp [Part.haltCycle]
@[simp] theorem Part.haltCycle_roster (p : Part) (f : FaultKind) : (p.haltCycle f).roster = p.roster := by simp [Part.haltCycle]
@[simp] theorem Part.haltCycle_ctl (p : Part) (f : FaultKind) : (p.haltCycle f).ctl = p.ctl := by simp [Part.haltCycle]
@[simp] theorem Part.haltCycle_gate (p : Part) (f : FaultKind) : (p.haltCycle f).gate = p.gate := by simp [Part.haltCycle]
@[simp] theorem Part.haltCycle_sup (p : Part) (f : FaultKind) : (p.haltCycle f).sup = p.sup := by simp [Part.haltCycle]
@[simp] theorem Part.haltCycle_port (p : Part) (f : FaultKind) : (p.haltCycle f).port = p.port := by simp [Part.haltCycle]
@[simp] theorem Part.haltCycle_inp (p : Part) (f : FaultKind) : (p.haltCycle f).inp = p.inp := by simp [Part.haltCycle]
@[simp] theorem Part.haltCycle_res (p : Part) (f : FaultKind) : (p.haltCycle f).res = p.res := by simp [Part.haltCycle]
@[simp] theorem Part.haltCycle_pins (p : Part) (f : FaultKind) : (p.haltCycle f).pins = p.pins := by simp [Part.haltCycle]
@[simp] theorem Part.haltCycle_freeCount (p : Part) (f : FaultKind) : (p.haltCycle f).freeCount = p.freeCount := by simp [Part.haltCycle]

/-! ### Part.endCooling -/

@[simp] theorem Part.endCooling_station (p : Part) : p.endCooling.station = p.station := by
  unfold Part.endCooling; (try dsimp only); repeat' split
  all_goals simp
@[simp] theorem Part.endCooling_line (p : Part) : p.endCooling.line = p.line := by
  unfold Part.endCooling; (try dsimp only); repeat' split
  all_goals simp
@[simp] theorem Part.endCooling_roster (p : Part) : p.endCooling.roster = p.roster := by
  unfold Part.endCooling; (try dsimp only); repeat' split
  all_goals simp
@[simp] theorem Part.endCooling_ctl (p : Part) : p.endCooling.ctl = p.ctl := by
  unfold Part.endCooling; (try dsimp only); repeat' split
  all_goals simp
@[simp] theorem Part.endCooling_gate (p : Part) : p.endCooling.gate = p.gate := by
  unfold Part.endCooling; (try dsimp only); repeat' split
  all_goals simp
@[simp] theorem Part.endCooling_sup (p : Part) : p.endCooling.sup = p.sup := by
  unfold Part.endCooling; (try dsimp only); repeat' split
  all_goals simp
@[simp] theorem Part.endCooling_port (p : Part) : p.endCooling.port = p.port := by
  unfold Part.endCooling; (try dsimp only); repeat' split
  all_goals simp
@[simp] theorem Part.endCooling_inp (p : Part) : p.endCooling.inp = p.inp := by
  unfold Part.endCooling; (try dsimp only); repeat' split
  all_goals simp
@[simp] theorem Part.endCooling_res (p : Part) : p.endCooling.res = p.res := by
  unfold Part.endCooling; (try dsimp only); repeat' split
  all_goals simp
@[simp] theorem Part.endCooling_pins (p : Part) : p.endCooling.pins = p.pins := by
  unfold Part.endCooling; (try dsimp only); repeat' split
  all_goals simp
@[simp] theorem Part.endCooling_freeCount (p : Part) : p.endCooling.freeCount = p.freeCount := by
  unfold Part.endCooling; (try dsimp only); repeat' split
  all_goals simp

/-! ### Part.endDrying -/

@[simp] theorem Part.endDrying_station (p : Part) : p.endDrying.station = p.station := by
  unfold Part.endDrying; (try dsimp only); repeat' split
  all_goals simp
@[simp] theorem Part.endDrying_line (p : Part) : p.endDrying.line = p.line := by
  unfold Part.endDrying; (try dsimp only); repeat' split
  all_goals simp
@[simp] theorem Part.endDrying_roster (p : Part) : p.endDrying.roster = p.roster := by
  unfold Part.endDrying; (try dsimp only); repeat' split
  all_goals simp
@[simp] theorem Part.endDrying_ctl (p : Part) : p.endDrying.ctl = p.ctl := by
  unfold Part.endDrying; (try dsimp only); repeat' split
  all_goals simp
@[simp] theorem Part.endDrying_gate (p : Part) : p.endDrying.gate = p.gate := by
  unfold Part.endDrying; (try dsimp only); repeat' split
  all_goals simp
@[simp] theorem Part.endDrying_sup (p : Part) : p.endDrying.sup = p.sup := by
  unfold Part.endDrying; (try dsimp only); repeat' split
  all_goals simp
@[simp] theorem Part.endDrying_port (p : Part) : p.endDrying.port = p.port := by
  unfold Part.endDrying; (try dsimp only); repeat' split
  all_goals simp
@[simp] theorem Part.endDrying_inp (p : Part) : p.endDrying.inp = p.inp := by
  unfold Part.endDrying; (try dsimp only); repeat' split
  all_goals simp
@[simp] theorem Part.endDrying_res (p : Part) : p.endDrying.res = p.res := by
  unfold Part.endDrying; (try dsimp only); repeat' split
  all_goals simp
@[simp] theorem Part.endDrying_pins (p : Part) : p.endDrying.pins = p.pins := by
  unfold Part.endDrying; (try dsimp only); repeat' split
  all_goals simp
@[simp] theorem Part.endDrying_freeCount (p : Part) : p.endDrying.freeCount = p.freeCount := by
  unfold Part.endDrying; (try dsimp only); repeat' split
  all_goals simp

/-! ### Part.laneGrant -/

@[simp] theorem Part.laneGrant_station (p : Part) : p.laneGrant.station = p.station := by
  unfold Part.laneGrant; (try dsimp only); repeat' split
  all_goals simp
@[simp] theorem Part.laneGrant_line (p : Part) : p.laneGrant.line = p.line := by
  unfold Part.laneGrant; (try dsimp only); repeat' split
  all_goals simp
@[simp] theorem Part.laneGrant_roster (p : Part) : p.laneGrant.roster = p.roster := by
  unfold Part.laneGrant; (try dsimp only); repeat' split
  all_goals simp
@[simp] theorem Part.laneGrant_ctl (p : Part) : p.laneGrant.ctl = p.ctl := by
  unfold Part.laneGrant; (try dsimp only); repeat' split
  all_goals simp
@[simp] theorem Part.laneGrant_sup (p : Part) : p.laneGrant.sup = p.sup := by
  unfold Part.laneGrant; (try dsimp only); repeat' split
  all_goals simp
@[simp] theorem Part.laneGrant_port (p : Part) : p.laneGrant.port = p.port := by
  unfold Part.laneGrant; (try dsimp only); repeat' split
  all_goals simp
@[simp] theorem Part.laneGrant_inp (p : Part) : p.laneGrant.inp = p.inp := by
  unfold Part.laneGrant; (try dsimp only); repeat' split
  all_goals simp
@[simp] theorem Part.laneGrant_res (p : Part) : p.laneGrant.res = p.res := by
  unfold Part.laneGrant; (try dsimp only); repeat' split
  all_goals simp
@[simp] theorem Part.laneGrant_pins (p : Part) : p.laneGrant.pins = p.pins := by
  unfold Part.laneGrant; (try dsimp only); repeat' split
  all_goals simp
@[simp] theorem Part.laneGrant_freeCount (p : Part) : p.laneGrant.freeCount = p.freeCount := by
  unfold Part.laneGrant; (try dsimp only); repeat' split
  all_goals simp

/-! ### Part.rotationConfirmed -/

@[simp] theorem Part.rotationConfirmed_station (p : Part) : p.rotationConfirmed.station = p.station := by
  unfold Part.rotationConfirmed; (try dsimp only); repeat' split
  all_goals simp
@[simp] theorem Part.rotationConfirmed_line (p : Part) : p.rotationConfirmed.line = p.line := by
  unfold Part.rotationConfirmed; (try dsimp only); repeat' split
  all_goals simp
@[simp] theorem Part.rotationConfirmed_roster (p : Part) : p.rotationConfirmed.roster = p.roster := by
  unfold Part.rotationConfirmed; (try dsimp only); repeat' split
  all_goals simp
@[simp] theorem Part.rotationConfirmed_ctl (p : Part) : p.rotationConfirmed.ctl = p.ctl := by
  unfold Part.rotationConfirmed; (try dsimp only); repeat' split
  all_goals simp
@[simp] theorem Part.rotationConfirmed_gate (p : Part) : p.rotationConfirmed.gate = p.gate := by
  unfold Part.rotationConfirmed; (try dsimp only); repeat' split
  all_goals simp
@[simp] theorem Part.rotationConfirmed_sup (p : Part) : p.rotationConfirmed.sup = p.sup := by
  unfold Part.rotationConfirmed; (try dsimp only); repeat' split
  all_goals simp
@[simp] theorem Part.rotationConfirmed_port (p : Part) : p.rotationConfirmed.port = p.port := by
  unfold Part.rotationConfirmed; (try dsimp only); repeat' split
  all_goals simp
@[simp] theorem Part.rotationConfirmed_inp (p : Part) : p.rotationConfirmed.inp = p.inp := by
  unfold Part.rotationConfirmed; (try dsimp only); repeat' split
  all_goals simp
@[simp] theorem Part.rotationConfirmed_res (p : Part) : p.rotationConfirmed.res = p.res := by
  unfold Part.rotationConfirmed; (try dsimp only); repeat' split
  all_goals simp
@[simp] theorem Part.rotationConfirmed_pins (p : Part) : p.rotationConfirmed.pins = p.pins := by
  unfold Part.rotationConfirmed; (try dsimp only); repeat' split
  all_goals simp
@[simp] theorem Part.rotationConfirmed_freeCount (p : Part) : p.rotationConfirmed.freeCount = p.freeCount := by
  unfold Part.rotationConfirmed; (try dsimp only); repeat' split
  all_goals simp

/-! ### Part.doorOpened -/

@[simp] theorem Part.doorOpened_station (p : Part) : p.doorOpened.station = p.station := by
  unfold Part.doorOpened; (try dsimp only); repeat' split
  all_goals simp
@[simp] theorem Part.doorOpened_line (p : Part) : p.doorOpened.line = p.line := by
  unfold Part.doorOpened; (try dsimp only); repeat' split
  all_goals simp
@[simp] theorem Part.doorOpened_roster (p : Part) : p.doorOpened.roster = p.roster := by
  unfold Part.doorOpened; (try dsimp only); repeat' split
  all_goals simp
@[simp] theorem Part.doorOpened_ctl (p : Part) : p.doorOpened.ctl = p.ctl := by
  unfold Part.doorOpened; (try dsimp only); repeat' split
  all_goals simp
@[simp] theorem Part.doorOpened_gate (p : Part) : p.doorOpened.gate = p.gate := by
  unfold Part.doorOpened; (try dsimp only); repeat' split
  all_goals simp
@[simp] theorem Part.doorOpened_sup (p : Part) : p.doorOpened.sup = p.sup := by
  unfold Part.doorOpened; (try dsimp only); repeat' split
  all_goals simp
@[simp] theorem Part.doorOpened_port (p : Part) : p.doorOpened.port = p.port := by
  unfold Part.doorOpened; (try dsimp only); repeat' split
  all_goals simp
@[simp] theorem Part.doorOpened_inp (p : Part) : p.doorOpened.inp = p.inp := by
  unfold Part.doorOpened; (try dsimp only); repeat' split
  all_goals simp
@[simp] theorem Part.doorOpened_res (p : Part) : p.doorOpened.res = p.res := by
  unfold Part.doorOpened; (try dsimp only); repeat' split
  all_goals simp
@[simp] theorem Part.doorOpened_pins (p : Part) : p.doorOpened.pins = p.pins := by
  unfold Part.doorOpened; (try dsimp only); repeat' split
  all_goals simp
@[simp] theorem Part.doorOpened_freeCount (p : Part) : p.doorOpened.freeCount = p.freeCount := by
  unfold Part.doorOpened; (try dsimp only); repeat' split
  all_goals simp

/-! ### Part.barHeat -/

@[simp] theorem Part.barHeat_station (p : Part) : p.barHeat.station = p.station := by
  unfold Part.barHeat; (try dsimp only); repeat' split
  all_goals simp
@[simp] theorem Part.barHeat_line (p : Part) : p.barHeat.line = p.line := by
  unfold Part.barHeat; (try dsimp only); repeat' split
  all_goals simp
@[simp] theorem Part.barHeat_roster (p : Part) : p.barHeat.roster = p.roster := by
  unfold Part.barHeat; (try dsimp only); repeat' split
  all_goals simp
@[simp] theorem Part.barHeat_ctl (p : Part) : p.barHeat.ctl = p.ctl := by
  unfold Part.barHeat; (try dsimp only); repeat' split
  all_goals simp
@[simp] theorem Part.barHeat_gate (p : Part) : p.barHeat.gate = p.gate := by
  unfold Part.barHeat; (try dsimp only); repeat' split
  all_goals simp
@[simp] theorem Part.barHeat_sup (p : Part) : p.barHeat.sup = p.sup := by
  unfold Part.barHeat; (try dsimp only); repeat' split
  all_goals simp
@[simp] theorem Part.barHeat_jrn (p : Part) : p.barHeat.jrn = p.jrn := by
  unfold Part.barHeat; (try dsimp only); repeat' split
  all_goals simp
@[simp] theorem Part.barHeat_port (p : Part) : p.barHeat.port = p.port := by
  unfold Part.barHeat; (try dsimp only); repeat' split
  all_goals simp
@[simp] theorem Part.barHeat_inp (p : Part) : p.barHeat.inp = p.inp := by
  unfold Part.barHeat; (try dsimp only); repeat' split
  all_goals simp
@[simp] theorem Part.barHeat_res (p : Part) : p.barHeat.res = p.res := by
  unfold Part.barHeat; (try dsimp only); repeat' split
  all_goals simp
@[simp] theorem Part.barHeat_pins (p : Part) : p.barHeat.pins = p.pins := by
  unfold Part.barHeat; (try dsimp only); repeat' split
  all_goals simp
@[simp] theorem Part.barHeat_freeCount (p : Part) : p.barHeat.freeCount = p.freeCount := by
  unfold Part.barHeat; (try dsimp only); repeat' split
  all_goals simp

/-! ### Part.highLimitTripped -/

@[simp] theorem Part.highLimitTripped_station (p : Part) : p.highLimitTripped.station = p.station := by
  (unfold Part.highLimitTripped; split <;> simp [Part.highLimitTripped.coolLater])
@[simp] theorem Part.highLimitTripped_line (p : Part) : p.highLimitTripped.line = p.line := by
  (unfold Part.highLimitTripped; split <;> simp [Part.highLimitTripped.coolLater])
@[simp] theorem Part.highLimitTripped_roster (p : Part) : p.highLimitTripped.roster = p.roster := by
  (unfold Part.highLimitTripped; split <;> simp [Part.highLimitTripped.coolLater])
@[simp] theorem Part.highLimitTripped_ctl (p : Part) : p.highLimitTripped.ctl = p.ctl := by
  (unfold Part.highLimitTripped; split <;> simp [Part.highLimitTripped.coolLater])
@[simp] theorem Part.highLimitTripped_gate (p : Part) : p.highLimitTripped.gate = p.gate := by
  (unfold Part.highLimitTripped; split <;> simp [Part.highLimitTripped.coolLater])
@[simp] theorem Part.highLimitTripped_sup (p : Part) : p.highLimitTripped.sup = p.sup := by
  (unfold Part.highLimitTripped; split <;> simp [Part.highLimitTripped.coolLater])
@[simp] theorem Part.highLimitTripped_port (p : Part) : p.highLimitTripped.port = p.port := by
  (unfold Part.highLimitTripped; split <;> simp [Part.highLimitTripped.coolLater])
@[simp] theorem Part.highLimitTripped_inp (p : Part) : p.highLimitTripped.inp = p.inp := by
  (unfold Part.highLimitTripped; split <;> simp [Part.highLimitTripped.coolLater])
@[simp] theorem Part.highLimitTripped_res (p : Part) : p.highLimitTripped.res = p.res := by
  (unfold Part.highLimitTripped; split <;> simp [Part.highLimitTripped.coolLater])
@[simp] theorem Part.highLimitTripped_pins (p : Part) : p.highLimitTripped.pins = p.pins := by
  (unfold Part.highLimitTripped; split <;> simp [Part.highLimitTripped.coolLater])
@[simp] theorem Part.highLimitTripped_freeCount (p : Part) : p.highLimitTripped.freeCount = p.freeCount := by
  (unfold Part.highLimitTripped; split <;> simp [Part.highLimitTripped.coolLater])

/-! ### Part.takeCheckpointConfig -/

@[simp] theorem Part.takeCheckpointConfig_station (p : Part) (r : Record) : (p.takeCheckpointConfig r).station = p.station := by
  unfold Part.takeCheckpointConfig; (try dsimp only); repeat' split
  all_goals simp
@[simp] theorem Part.takeCheckpointConfig_line (p : Part) (r : Record) : (p.takeCheckpointConfig r).line = p.line := by
  unfold Part.takeCheckpointConfig; (try dsimp only); repeat' split
  all_goals simp
@[simp] theorem Part.takeCheckpointConfig_roster (p : Part) (r : Record) : (p.takeCheckpointConfig r).roster = p.roster := by
  unfold Part.takeCheckpointConfig; (try dsimp only); repeat' split
  all_goals simp
@[simp] theorem Part.takeCheckpointConfig_cyc (p : Part) (r : Record) : (p.takeCheckpointConfig r).cyc = p.cyc := by
  unfold Part.takeCheckpointConfig; (try dsimp only); repeat' split
  all_goals simp
@[simp] theorem Part.takeCheckpointConfig_gate (p : Part) (r : Record) : (p.takeCheckpointConfig r).gate = p.gate := by
  unfold Part.takeCheckpointConfig; (try dsimp only); repeat' split
  all_goals simp
@[simp] theorem Part.takeCheckpointConfig_sup (p : Part) (r : Record) : (p.takeCheckpointConfig r).sup = p.sup := by
  unfold Part.takeCheckpointConfig; (try dsimp only); repeat' split
  all_goals simp
@[simp] theorem Part.takeCheckpointConfig_jrn (p : Part) (r : Record) : (p.takeCheckpointConfig r).jrn = p.jrn := by
  unfold Part.takeCheckpointConfig; (try dsimp only); repeat' split
  all_goals simp
@[simp] theorem Part.takeCheckpointConfig_port (p : Part) (r : Record) : (p.takeCheckpointConfig r).port = p.port := by
  unfold Part.takeCheckpointConfig; (try dsimp only); repeat' split
  all_goals simp
@[simp] theorem Part.takeCheckpointConfig_inp (p : Part) (r : Record) : (p.takeCheckpointConfig r).inp = p.inp := by
  unfold Part.takeCheckpointConfig; (try dsimp only); repeat' split
  all_goals simp
@[simp] theorem Part.takeCheckpointConfig_res (p : Part) (r : Record) : (p.takeCheckpointConfig r).res = p.res := by
  unfold Part.takeCheckpointConfig; (try dsimp only); repeat' split
  all_goals simp
@[simp] theorem Part.takeCheckpointConfig_pins (p : Part) (r : Record) : (p.takeCheckpointConfig r).pins = p.pins := by
  unfold Part.takeCheckpointConfig; (try dsimp only); repeat' split
  all_goals simp
@[simp] theorem Part.takeCheckpointConfig_freeCount (p : Part) (r : Record) : (p.takeCheckpointConfig r).freeCount = p.freeCount := by
  unfold Part.takeCheckpointConfig; (try dsimp only); repeat' split
  all_goals simp

/-! ### Part.inputsAtDecision -/

@[simp] theorem Part.inputsAtDecision_station (p : Part) : p.inputsAtDecision.station = p.station := by
  unfold Part.inputsAtDecision; (try dsimp only); repeat' split
  all_goals simp
@[simp] theorem Part.inputsAtDecision_line (p : Part) : p.inputsAtDecision.line = p.line := by
  unfold Part.inputsAtDecision; (try dsimp only); repeat' split
  all_goals simp
@[simp] theorem Part.inputsAtDecision_roster (p : Part) : p.inputsAtDecision.roster = p.roster := by
  unfold Part.inputsAtDecision; (try dsimp only); repeat' split
  all_goals simp
@[simp] theorem Part.inputsAtDecision_ctl (p : Part) : p.inputsAtDecision.ctl = p.ctl := by
  unfold Part.inputsAtDecision; (try dsimp only); repeat' split
  all_goals simp
@[simp] theorem Part.inputsAtDecision_gate (p : Part) : p.inputsAtDecision.gate = p.gate := by
  unfold Part.inputsAtDecision; (try dsimp only); repeat' split
  all_goals simp
@[simp] theorem Part.inputsAtDecision_sup (p : Part) : p.inputsAtDecision.sup = p.sup := by
  unfold Part.inputsAtDecision; (try dsimp only); repeat' split
  all_goals simp
@[simp] theorem Part.inputsAtDecision_port (p : Part) : p.inputsAtDecision.port = p.port := by
  unfold Part.inputsAtDecision; (try dsimp only); repeat' split
  all_goals simp
@[simp] theorem Part.inputsAtDecision_inp (p : Part) : p.inputsAtDecision.inp = p.inp := by
  unfold Part.inputsAtDecision; (try dsimp only); repeat' split
  all_goals simp
@[simp] theorem Part.inputsAtDecision_res (p : Part) : p.inputsAtDecision.res = p.res := by
  unfold Part.inputsAtDecision; (try dsimp only); repeat' split
  all_goals simp
@[simp] theorem Part.inputsAtDecision_pins (p : Part) : p.inputsAtDecision.pins = p.pins := by
  unfold Part.inputsAtDecision; (try dsimp only); repeat' split
  all_goals simp
@[simp] theorem Part.inputsAtDecision_freeCount (p : Part) : p.inputsAtDecision.freeCount = p.freeCount := by
  unfold Part.inputsAtDecision; (try dsimp only); repeat' split
  all_goals simp

/-! ### Part.notifyResume -/

@[simp] theorem Part.notifyResume_station (p : Part) (o : Option Nat) : (p.notifyResume o).station = p.station := rfl
@[simp] theorem Part.notifyResume_line (p : Part) (o : Option Nat) : (p.notifyResume o).line = p.line := rfl
@[simp] theorem Part.notifyResume_roster (p : Part) (o : Option Nat) : (p.notifyResume o).roster = p.roster := rfl
@[simp] theorem Part.notifyResume_ctl (p : Part) (o : Option Nat) : (p.notifyResume o).ctl = p.ctl := rfl
@[simp] theorem Part.notifyResume_cyc (p : Part) (o : Option Nat) : (p.notifyResume o).cyc = p.cyc := rfl
@[simp] theorem Part.notifyResume_gate (p : Part) (o : Option Nat) : (p.notifyResume o).gate = p.gate := rfl
@[simp] theorem Part.notifyResume_sup (p : Part) (o : Option Nat) : (p.notifyResume o).sup = p.sup := rfl
@[simp] theorem Part.notifyResume_jrn (p : Part) (o : Option Nat) : (p.notifyResume o).jrn = p.jrn := rfl
@[simp] theorem Part.notifyResume_port (p : Part) (o : Option Nat) : (p.notifyResume o).port = p.port := rfl
@[simp] theorem Part.notifyResume_inp (p : Part) (o : Option Nat) : (p.notifyResume o).inp = p.inp := rfl
@[simp] theorem Part.notifyResume_res (p : Part) (o : Option Nat) : (p.notifyResume o).res = p.res := rfl
@[simp] theorem Part.notifyResume_pins (p : Part) (o : Option Nat) : (p.notifyResume o).pins = p.pins := rfl
@[simp] theorem Part.notifyResume_freeCount (p : Part) (o : Option Nat) : (p.notifyResume o).freeCount = p.freeCount := rfl

/-! ### Part.notifyEnded -/

@[simp] theorem Part.notifyEnded_station (p : Part) (r : Record) (x : Placement) : (p.notifyEnded r x).station = p.station := by
  unfold Part.notifyEnded; (try dsimp only); repeat' split
  all_goals simp
@[simp] theorem Part.notifyEnded_line (p : Part) (r : Record) (x : Placement) : (p.notifyEnded r x).line = p.line := by
  unfold Part.notifyEnded; (try dsimp only); repeat' split
  all_goals simp
@[simp] theorem Part.notifyEnded_roster (p : Part) (r : Record) (x : Placement) : (p.notifyEnded r x).roster = p.roster := by
  unfold Part.notifyEnded; (try dsimp only); repeat' split
  all_goals simp
@[simp] theorem Part.notifyEnded_ctl (p : Part) (r : Record) (x : Placement) : (p.notifyEnded r x).ctl = p.ctl := by
  unfold Part.notifyEnded; (try dsimp only); repeat' split
  all_goals simp
@[simp] theorem Part.notifyEnded_cyc (p : Part) (r : Record) (x : Placement) : (p.notifyEnded r x).cyc = p.cyc := by
  unfold Part.notifyEnded; (try dsimp only); repeat' split
  all_goals simp
@[simp] theorem Part.notifyEnded_gate (p : Part) (r : Record) (x : Placement) : (p.notifyEnded r x).gate = p.gate := by
  unfold Part.notifyEnded; (try dsimp only); repeat' split
  all_goals simp
@[simp] theorem Part.notifyEnded_sup (p : Part) (r : Record) (x : Placement) : (p.notifyEnded r x).sup = p.sup := by
  unfold Part.notifyEnded; (try dsimp only); repeat' split
  all_goals simp
@[simp] theorem Part.notifyEnded_jrn (p : Part) (r : Record) (x : Placement) : (p.notifyEnded r x).jrn = p.jrn := by
  unfold Part.notifyEnded; (try dsimp only); repeat' split
  all_goals simp
@[simp] theorem Part.notifyEnded_port (p : Part) (r : Record) (x : Placement) : (p.notifyEnded r x).port = p.port := by
  unfold Part.notifyEnded; (try dsimp only); repeat' split
  all_goals simp
@[simp] theorem Part.notifyEnded_inp (p : Part) (r : Record) (x : Placement) : (p.notifyEnded r x).inp = p.inp := by
  unfold Part.notifyEnded; (try dsimp only); repeat' split
  all_goals simp
@[simp] theorem Part.notifyEnded_res (p : Part) (r : Record) (x : Placement) : (p.notifyEnded r x).res = p.res := by
  unfold Part.notifyEnded; (try dsimp only); repeat' split
  all_goals simp
@[simp] theorem Part.notifyEnded_pins (p : Part) (r : Record) (x : Placement) : (p.notifyEnded r x).pins = p.pins := by
  unfold Part.notifyEnded; (try dsimp only); repeat' split
  all_goals simp
@[simp] theorem Part.notifyEnded_freeCount (p : Part) (r : Record) (x : Placement) : (p.notifyEnded r x).freeCount = p.freeCount := by
  unfold Part.notifyEnded; (try dsimp only); repeat' split
  all_goals simp

/-! ### Part.resumeDecision -/

@[simp] theorem Part.resumeDecision_station (p : Part) (o : Option Nat) (l : Bool) : (p.resumeDecision o l).station = p.station := by
  unfold Part.resumeDecision; (try dsimp only); repeat' split
  all_goals simp
@[simp] theorem Part.resumeDecision_line (p : Part) (o : Option Nat) (l : Bool) : (p.resumeDecision o l).line = p.line := by
  unfold Part.resumeDecision; (try dsimp only); repeat' split
  all_goals simp
@[simp] theorem Part.resumeDecision_roster (p : Part) (o : Option Nat) (l : Bool) : (p.resumeDecision o l).roster = p.roster := by
  unfold Part.resumeDecision; (try dsimp only); repeat' split
  all_goals simp
@[simp] theorem Part.resumeDecision_gate (p : Part) (o : Option Nat) (l : Bool) : (p.resumeDecision o l).gate = p.gate := by
  unfold Part.resumeDecision; (try dsimp only); repeat' split
  all_goals simp
@[simp] theorem Part.resumeDecision_sup (p : Part) (o : Option Nat) (l : Bool) : (p.resumeDecision o l).sup = p.sup := by
  unfold Part.resumeDecision; (try dsimp only); repeat' split
  all_goals simp
@[simp] theorem Part.resumeDecision_port (p : Part) (o : Option Nat) (l : Bool) : (p.resumeDecision o l).port = p.port := by
  unfold Part.resumeDecision; (try dsimp only); repeat' split
  all_goals simp
@[simp] theorem Part.resumeDecision_inp (p : Part) (o : Option Nat) (l : Bool) : (p.resumeDecision o l).inp = p.inp := by
  unfold Part.resumeDecision; (try dsimp only); repeat' split
  all_goals simp
@[simp] theorem Part.resumeDecision_pins (p : Part) (o : Option Nat) (l : Bool) : (p.resumeDecision o l).pins = p.pins := by
  unfold Part.resumeDecision; (try dsimp only); repeat' split
  all_goals simp

/-! ### Part.applyLane -/

@[simp] theorem Part.applyLane_station (p : Part) (f : Frame) : (p.applyLane f).station = p.station := by
  unfold Part.applyLane; (try dsimp only); repeat' split
  all_goals simp
@[simp] theorem Part.applyLane_line (p : Part) (f : Frame) : (p.applyLane f).line = p.line := by
  unfold Part.applyLane; (try dsimp only); repeat' split
  all_goals simp
@[simp] theorem Part.applyLane_ctl (p : Part) (f : Frame) : (p.applyLane f).ctl = p.ctl := by
  unfold Part.applyLane; (try dsimp only); repeat' split
  all_goals simp
@[simp] theorem Part.applyLane_cyc (p : Part) (f : Frame) : (p.applyLane f).cyc = p.cyc := by
  unfold Part.applyLane; (try dsimp only); repeat' split
  all_goals simp
@[simp] theorem Part.applyLane_gate (p : Part) (f : Frame) : (p.applyLane f).gate = p.gate := by
  unfold Part.applyLane; (try dsimp only); repeat' split
  all_goals simp
@[simp] theorem Part.applyLane_sup (p : Part) (f : Frame) : (p.applyLane f).sup = p.sup := by
  unfold Part.applyLane; (try dsimp only); repeat' split
  all_goals simp
@[simp] theorem Part.applyLane_jrn (p : Part) (f : Frame) : (p.applyLane f).jrn = p.jrn := by
  unfold Part.applyLane; (try dsimp only); repeat' split
  all_goals simp
@[simp] theorem Part.applyLane_port (p : Part) (f : Frame) : (p.applyLane f).port = p.port := by
  unfold Part.applyLane; (try dsimp only); repeat' split
  all_goals simp
@[simp] theorem Part.applyLane_ntc (p : Part) (f : Frame) : (p.applyLane f).ntc = p.ntc := by
  unfold Part.applyLane; (try dsimp only); repeat' split
  all_goals simp
@[simp] theorem Part.applyLane_inp (p : Part) (f : Frame) : (p.applyLane f).inp = p.inp := by
  unfold Part.applyLane; (try dsimp only); repeat' split
  all_goals simp
@[simp] theorem Part.applyLane_res (p : Part) (f : Frame) : (p.applyLane f).res = p.res := by
  unfold Part.applyLane; (try dsimp only); repeat' split
  all_goals simp
@[simp] theorem Part.applyLane_pins (p : Part) (f : Frame) : (p.applyLane f).pins = p.pins := by
  unfold Part.applyLane; (try dsimp only); repeat' split
  all_goals simp
@[simp] theorem Part.applyLane_freeCount (p : Part) (f : Frame) : (p.applyLane f).freeCount = p.freeCount := by
  unfold Part.applyLane; (try dsimp only); repeat' split
  all_goals simp

/-! ### Part.budgetMismatch -/

@[simp] theorem Part.budgetMismatch_station (p : Part) (f : Frame) : (p.budgetMismatch f).station = p.station := by
  unfold Part.budgetMismatch; (try dsimp only); repeat' split
  all_goals simp
@[simp] theorem Part.budgetMismatch_line (p : Part) (f : Frame) : (p.budgetMismatch f).line = p.line := by
  unfold Part.budgetMismatch; (try dsimp only); repeat' split
  all_goals simp
@[simp] theorem Part.budgetMismatch_ctl (p : Part) (f : Frame) : (p.budgetMismatch f).ctl = p.ctl := by
  unfold Part.budgetMismatch; (try dsimp only); repeat' split
  all_goals simp
@[simp] theorem Part.budgetMismatch_cyc (p : Part) (f : Frame) : (p.budgetMismatch f).cyc = p.cyc := by
  unfold Part.budgetMismatch; (try dsimp only); repeat' split
  all_goals simp
@[simp] theorem Part.budgetMismatch_gate (p : Part) (f : Frame) : (p.budgetMismatch f).gate = p.gate := by
  unfold Part.budgetMismatch; (try dsimp only); repeat' split
  all_goals simp
@[simp] theorem Part.budgetMismatch_sup (p : Part) (f : Frame) : (p.budgetMismatch f).sup = p.sup := by
  unfold Part.budgetMismatch; (try dsimp only); repeat' split
  all_goals simp
@[simp] theorem Part.budgetMismatch_jrn (p : Part) (f : Frame) : (p.budgetMismatch f).jrn = p.jrn := by
  unfold Part.budgetMismatch; (try dsimp only); repeat' split
  all_goals simp
@[simp] theorem Part.budgetMismatch_port (p : Part) (f : Frame) : (p.budgetMismatch f).port = p.port := by
  unfold Part.budgetMismatch; (try dsimp only); repeat' split
  all_goals simp
@[simp] theorem Part.budgetMismatch_inp (p : Part) (f : Frame) : (p.budgetMismatch f).inp = p.inp := by
  unfold Part.budgetMismatch; (try dsimp only); repeat' split
  all_goals simp
@[simp] theorem Part.budgetMismatch_res (p : Part) (f : Frame) : (p.budgetMismatch f).res = p.res := by
  unfold Part.budgetMismatch; (try dsimp only); repeat' split
  all_goals simp
@[simp] theorem Part.budgetMismatch_pins (p : Part) (f : Frame) : (p.budgetMismatch f).pins = p.pins := by
  unfold Part.budgetMismatch; (try dsimp only); repeat' split
  all_goals simp
@[simp] theorem Part.budgetMismatch_freeCount (p : Part) (f : Frame) : (p.budgetMismatch f).freeCount = p.freeCount := by
  unfold Part.budgetMismatch; (try dsimp only); repeat' split
  all_goals simp

/-! ### Part.applyFrame -/

@[simp] theorem Part.applyFrame_station (p : Part) (f : Frame) : (p.applyFrame f).station = p.station := by
  unfold Part.applyFrame; (try dsimp only); repeat' split
  all_goals simp
@[simp] theorem Part.applyFrame_line (p : Part) (f : Frame) : (p.applyFrame f).line = p.line := by
  unfold Part.applyFrame; (try dsimp only); repeat' split
  all_goals simp
@[simp] theorem Part.applyFrame_cyc (p : Part) (f : Frame) : (p.applyFrame f).cyc = p.cyc := by
  unfold Part.applyFrame; (try dsimp only); repeat' split
  all_goals simp
@[simp] theorem Part.applyFrame_gate (p : Part) (f : Frame) : (p.applyFrame f).gate = p.gate := by
  unfold Part.applyFrame; (try dsimp only); repeat' split
  all_goals simp
@[simp] theorem Part.applyFrame_sup (p : Part) (f : Frame) : (p.applyFrame f).sup = p.sup := by
  unfold Part.applyFrame; (try dsimp only); repeat' split
  all_goals simp
@[simp] theorem Part.applyFrame_jrn (p : Part) (f : Frame) : (p.applyFrame f).jrn = p.jrn := by
  unfold Part.applyFrame; (try dsimp only); repeat' split
  all_goals simp
@[simp] theorem Part.applyFrame_port (p : Part) (f : Frame) : (p.applyFrame f).port = p.port := by
  unfold Part.applyFrame; (try dsimp only); repeat' split
  all_goals simp
@[simp] theorem Part.applyFrame_inp (p : Part) (f : Frame) : (p.applyFrame f).inp = p.inp := by
  unfold Part.applyFrame; (try dsimp only); repeat' split
  all_goals simp
@[simp] theorem Part.applyFrame_res (p : Part) (f : Frame) : (p.applyFrame f).res = p.res := by
  unfold Part.applyFrame; (try dsimp only); repeat' split
  all_goals simp
@[simp] theorem Part.applyFrame_pins (p : Part) (f : Frame) : (p.applyFrame f).pins = p.pins := by
  unfold Part.applyFrame; (try dsimp only); repeat' split
  all_goals simp
@[simp] theorem Part.applyFrame_freeCount (p : Part) (f : Frame) : (p.applyFrame f).freeCount = p.freeCount := by
  unfold Part.applyFrame; (try dsimp only); repeat' split
  all_goals simp

/-! ### Part.applyOwnNumber -/

@[simp] theorem Part.applyOwnNumber_station (p : Part) (f : Frame) : (p.applyOwnNumber f).station = p.station := by
  unfold Part.applyOwnNumber; (try dsimp only); repeat' split
  all_goals simp
@[simp] theorem Part.applyOwnNumber_line (p : Part) (f : Frame) : (p.applyOwnNumber f).line = p.line := by
  unfold Part.applyOwnNumber; (try dsimp only); repeat' split
  all_goals simp
@[simp] theorem Part.applyOwnNumber_cyc (p : Part) (f : Frame) : (p.applyOwnNumber f).cyc = p.cyc := by
  unfold Part.applyOwnNumber; (try dsimp only); repeat' split
  all_goals simp
@[simp] theorem Part.applyOwnNumber_gate (p : Part) (f : Frame) : (p.applyOwnNumber f).gate = p.gate := by
  unfold Part.applyOwnNumber; (try dsimp only); repeat' split
  all_goals simp
@[simp] theorem Part.applyOwnNumber_sup (p : Part) (f : Frame) : (p.applyOwnNumber f).sup = p.sup := by
  unfold Part.applyOwnNumber; (try dsimp only); repeat' split
  all_goals simp
@[simp] theorem Part.applyOwnNumber_jrn (p : Part) (f : Frame) : (p.applyOwnNumber f).jrn = p.jrn := by
  unfold Part.applyOwnNumber; (try dsimp only); repeat' split
  all_goals simp
@[simp] theorem Part.applyOwnNumber_port (p : Part) (f : Frame) : (p.applyOwnNumber f).port = p.port := by
  unfold Part.applyOwnNumber; (try dsimp only); repeat' split
  all_goals simp
@[simp] theorem Part.applyOwnNumber_inp (p : Part) (f : Frame) : (p.applyOwnNumber f).inp = p.inp := by
  unfold Part.applyOwnNumber; (try dsimp only); repeat' split
  all_goals simp
@[simp] theorem Part.applyOwnNumber_res (p : Part) (f : Frame) : (p.applyOwnNumber f).res = p.res := by
  unfold Part.applyOwnNumber; (try dsimp only); repeat' split
  all_goals simp
@[simp] theorem Part.applyOwnNumber_pins (p : Part) (f : Frame) : (p.applyOwnNumber f).pins = p.pins := by
  unfold Part.applyOwnNumber; (try dsimp only); repeat' split
  all_goals simp
@[simp] theorem Part.applyOwnNumber_freeCount (p : Part) (f : Frame) : (p.applyOwnNumber f).freeCount = p.freeCount := by
  unfold Part.applyOwnNumber; (try dsimp only); repeat' split
  all_goals simp

/-! ### Part.ownAccepted -/

@[simp] theorem Part.ownAccepted_station (p : Part) (f : Frame) : (p.ownAccepted f).station = p.station := by
  unfold Part.ownAccepted; (try dsimp only); repeat' split
  all_goals simp
@[simp] theorem Part.ownAccepted_line (p : Part) (f : Frame) : (p.ownAccepted f).line = p.line := by
  unfold Part.ownAccepted; (try dsimp only); repeat' split
  all_goals simp
@[simp] theorem Part.ownAccepted_roster (p : Part) (f : Frame) : (p.ownAccepted f).roster = p.roster := by
  unfold Part.ownAccepted; (try dsimp only); repeat' split
  all_goals simp
@[simp] theorem Part.ownAccepted_port (p : Part) (f : Frame) : (p.ownAccepted f).port = p.port := by
  unfold Part.ownAccepted; (try dsimp only); repeat' split
  all_goals simp
@[simp] theorem Part.ownAccepted_inp (p : Part) (f : Frame) : (p.ownAccepted f).inp = p.inp := by
  unfold Part.ownAccepted; (try dsimp only); repeat' split
  all_goals simp
@[simp] theorem Part.ownAccepted_res (p : Part) (f : Frame) : (p.ownAccepted f).res = p.res := by
  unfold Part.ownAccepted; (try dsimp only); repeat' split
  all_goals simp
@[simp] theorem Part.ownAccepted_pins (p : Part) (f : Frame) : (p.ownAccepted f).pins = p.pins := by
  unfold Part.ownAccepted; (try dsimp only); repeat' split
  all_goals simp
@[simp] theorem Part.ownAccepted_freeCount (p : Part) (f : Frame) : (p.ownAccepted f).freeCount = p.freeCount := by
  unfold Part.ownAccepted; (try dsimp only); repeat' split
  all_goals simp

/-! ### Part.ownVoided -/

@[simp] theorem Part.ownVoided_station (p : Part) (f : Frame) : (p.ownVoided f).station = p.station := by
  unfold Part.ownVoided; (try dsimp only); repeat' split
  all_goals simp
@[simp] theorem Part.ownVoided_line (p : Part) (f : Frame) : (p.ownVoided f).line = p.line := by
  unfold Part.ownVoided; (try dsimp only); repeat' split
  all_goals simp
@[simp] theorem Part.ownVoided_roster (p : Part) (f : Frame) : (p.ownVoided f).roster = p.roster := by
  unfold Part.ownVoided; (try dsimp only); repeat' split
  all_goals simp
@[simp] theorem Part.ownVoided_cyc (p : Part) (f : Frame) : (p.ownVoided f).cyc = p.cyc := by
  unfold Part.ownVoided; (try dsimp only); repeat' split
  all_goals simp
@[simp] theorem Part.ownVoided_gate (p : Part) (f : Frame) : (p.ownVoided f).gate = p.gate := by
  unfold Part.ownVoided; (try dsimp only); repeat' split
  all_goals simp
@[simp] theorem Part.ownVoided_sup (p : Part) (f : Frame) : (p.ownVoided f).sup = p.sup := by
  unfold Part.ownVoided; (try dsimp only); repeat' split
  all_goals simp
@[simp] theorem Part.ownVoided_jrn (p : Part) (f : Frame) : (p.ownVoided f).jrn = p.jrn := by
  unfold Part.ownVoided; (try dsimp only); repeat' split
  all_goals simp
@[simp] theorem Part.ownVoided_port (p : Part) (f : Frame) : (p.ownVoided f).port = p.port := by
  unfold Part.ownVoided; (try dsimp only); repeat' split
  all_goals simp
@[simp] theorem Part.ownVoided_ntc (p : Part) (f : Frame) : (p.ownVoided f).ntc = p.ntc := by
  unfold Part.ownVoided; (try dsimp only); repeat' split
  all_goals simp
@[simp] theorem Part.ownVoided_inp (p : Part) (f : Frame) : (p.ownVoided f).inp = p.inp := by
  unfold Part.ownVoided; (try dsimp only); repeat' split
  all_goals simp
@[simp] theorem Part.ownVoided_res (p : Part) (f : Frame) : (p.ownVoided f).res = p.res := by
  unfold Part.ownVoided; (try dsimp only); repeat' split
  all_goals simp
@[simp] theorem Part.ownVoided_pins (p : Part) (f : Frame) : (p.ownVoided f).pins = p.pins := by
  unfold Part.ownVoided; (try dsimp only); repeat' split
  all_goals simp
@[simp] theorem Part.ownVoided_freeCount (p : Part) (f : Frame) : (p.ownVoided f).freeCount = p.freeCount := by
  unfold Part.ownVoided; (try dsimp only); repeat' split
  all_goals simp

/-! ### Part.startFrame -/

@[simp] theorem Part.startFrame_station (p : Part) : p.startFrame.station = p.station := by
  unfold Part.startFrame; (try dsimp only); repeat' split
  all_goals simp
@[simp] theorem Part.startFrame_roster (p : Part) : p.startFrame.roster = p.roster := by
  unfold Part.startFrame; (try dsimp only); repeat' split
  all_goals simp
@[simp] theorem Part.startFrame_cyc (p : Part) : p.startFrame.cyc = p.cyc := by
  unfold Part.startFrame; (try dsimp only); repeat' split
  all_goals simp
@[simp] theorem Part.startFrame_gate (p : Part) : p.startFrame.gate = p.gate := by
  unfold Part.startFrame; (try dsimp only); repeat' split
  all_goals simp
@[simp] theorem Part.startFrame_sup (p : Part) : p.startFrame.sup = p.sup := by
  unfold Part.startFrame; (try dsimp only); repeat' split
  all_goals simp
@[simp] theorem Part.startFrame_jrn (p : Part) : p.startFrame.jrn = p.jrn := by
  unfold Part.startFrame; (try dsimp only); repeat' split
  all_goals simp
@[simp] theorem Part.startFrame_port (p : Part) : p.startFrame.port = p.port := by
  unfold Part.startFrame; (try dsimp only); repeat' split
  all_goals simp
@[simp] theorem Part.startFrame_ntc (p : Part) : p.startFrame.ntc = p.ntc := by
  unfold Part.startFrame; (try dsimp only); repeat' split
  all_goals simp
@[simp] theorem Part.startFrame_inp (p : Part) : p.startFrame.inp = p.inp := by
  unfold Part.startFrame; (try dsimp only); repeat' split
  all_goals simp
@[simp] theorem Part.startFrame_res (p : Part) : p.startFrame.res = p.res := by
  unfold Part.startFrame; (try dsimp only); repeat' split
  all_goals simp
@[simp] theorem Part.startFrame_pins (p : Part) : p.startFrame.pins = p.pins := by
  unfold Part.startFrame; (try dsimp only); repeat' split
  all_goals simp
@[simp] theorem Part.startFrame_freeCount (p : Part) : p.startFrame.freeCount = p.freeCount := by
  unfold Part.startFrame; (try dsimp only); repeat' split
  all_goals simp

end Sys2Proof.Machine
end

