-- ==== Sys2Proof/Laws/State.lean ====
section
/-! SUPPORT. What each named update of one part of the state does to each of its fields, so that no later proof unfolds
a record update. -/

namespace Sys2Proof.Machine

/-! ### The roster -/

@[simp] theorem Roster.entry_withEntry_self (r : Roster) (i : Station) (e : Entry) :
    (r.withEntry i e).entry i = e := by
  show (r.entries.set i.val e i.isLt)[i.val] = e
  simp

@[simp] theorem Roster.entry_withEntry_ne (r : Roster) {i j : Station} (e : Entry) (h : j ≠ i) :
    (r.withEntry i e).entry j = r.entry j := by
  have h' : (i : Nat) ≠ j := fun x => h (Fin.ext x.symm)
  show (r.entries.set i.val e i.isLt)[j.val] = r.entries[j.val]
  simp [h']

@[simp] theorem Roster.withEntry_lane (r : Roster) (i : Station) (e : Entry) : (r.withEntry i e).lane = r.lane := rfl

/-! ### The journal -/

@[simp] theorem Journal.slot_withSlot_self (j : Journal) (n : SlotName) (x : Slot) : (j.withSlot n x).slot n = x := by
  cases n <;> rfl

@[simp] theorem Journal.slot_withSlot_other (j : Journal) (n : SlotName) (x : Slot) :
    (j.withSlot n x).slot n.other = j.slot n.other := by cases n <;> rfl

@[simp] theorem Journal.withSlot_operation (j : Journal) (n : SlotName) (x : Slot) :
    (j.withSlot n x).operation = j.operation := by cases n <;> rfl

@[simp] theorem Journal.withSlot_newest (j : Journal) (n : SlotName) (x : Slot) :
    (j.withSlot n x).newest = j.newest := by cases n <;> rfl

@[simp] theorem Journal.withSlot_newestSequence (j : Journal) (n : SlotName) (x : Slot) :
    (j.withSlot n x).newestSequence = j.newestSequence := by cases n <;> rfl

@[simp] theorem Journal.withSlot_startRead (j : Journal) (n : SlotName) (x : Slot) :
    (j.withSlot n x).startRead = j.startRead := by cases n <;> rfl

@[simp] theorem Journal.slot_withTorn (j : Journal) (n m : SlotName) (t : Bool) :
    (j.withTorn n t).slot m = j.slot m := by cases n <;> cases m <;> rfl

@[simp] theorem Journal.torn_withTorn_self (j : Journal) (n : SlotName) (t : Bool) : (j.withTorn n t).torn n = t := by
  cases n <;> rfl

@[simp] theorem Journal.withTorn_operation (j : Journal) (n : SlotName) (t : Bool) :
    (j.withTorn n t).operation = j.operation := by cases n <;> rfl

@[simp] theorem Journal.withTorn_newest (j : Journal) (n : SlotName) (t : Bool) :
    (j.withTorn n t).newest = j.newest := by cases n <;> rfl

@[simp] theorem Journal.withTorn_newestSequence (j : Journal) (n : SlotName) (t : Bool) :
    (j.withTorn n t).newestSequence = j.newestSequence := by cases n <;> rfl

@[simp] theorem Journal.withTorn_startRead (j : Journal) (n : SlotName) (t : Bool) :
    (j.withTorn n t).startRead = j.startRead := by cases n <;> rfl

@[simp] theorem SlotName.other_ne (n : SlotName) : n.other ≠ n := by cases n <;> decide

/-! ### The gate and the inputs -/

@[simp] theorem Gate.stage_withStage_self (g : Gate) (n : HeatStage) (x : StageGate) :
    (g.withStage n x).stage n = x := by cases n <;> rfl

@[simp] theorem Gate.withStage_motor (g : Gate) (n : HeatStage) (x : StageGate) :
    (g.withStage n x).motor = g.motor := by cases n <;> rfl

@[simp] theorem Gate.withStage_watch (g : Gate) (n : HeatStage) (x : StageGate) :
    (g.withStage n x).watch = g.watch := by cases n <;> rfl

@[simp] theorem Gate.motorOff_motor (g : Gate) : g.motorOff.motor = false := rfl
@[simp] theorem Gate.motorOff_watch (g : Gate) : g.motorOff.watch = .none := rfl
@[simp] theorem Gate.motorOff_motorMinOff (g : Gate) : g.motorOff.motorMinOff = .running 0 := rfl
@[simp] theorem Gate.motorOff_heat1 (g : Gate) : g.motorOff.heat1 = g.heat1 := rfl
@[simp] theorem Gate.motorOff_heat2 (g : Gate) : g.motorOff.heat2 = g.heat2 := rfl
@[simp] theorem Gate.motorTakenOff_motor (g : Gate) (w : Bool) : (g.motorTakenOff w).motor = false := by
  unfold Gate.motorTakenOff; split <;> rfl
@[simp] theorem Gate.motorTakenOff_watch (g : Gate) (w : Bool) : (g.motorTakenOff w).watch = .none := by
  unfold Gate.motorTakenOff; split <;> rfl
@[simp] theorem Gate.motorTakenOff_heat1 (g : Gate) (w : Bool) : (g.motorTakenOff w).heat1 = g.heat1 := by
  unfold Gate.motorTakenOff; split <;> rfl
@[simp] theorem Gate.motorTakenOff_heat2 (g : Gate) (w : Bool) : (g.motorTakenOff w).heat2 = g.heat2 := by
  unfold Gate.motorTakenOff; split <;> rfl
@[simp] theorem Gate.motorOn_motor (g : Gate) : g.motorOn.motor = true := rfl
@[simp] theorem Gate.motorOn_watch (g : Gate) : g.motorOn.watch = .confirming := rfl
@[simp] theorem Gate.motorOn_pastStart (g : Gate) : g.motorOn.pastStart = false := rfl
@[simp] theorem Gate.motorOn_motorDrive (g : Gate) : g.motorOn.motorDrive = false := rfl
@[simp] theorem Gate.motorOff_motorDrive (g : Gate) : g.motorOff.motorDrive = false := rfl
@[simp] theorem Gate.motorTakenOff_motorDrive (g : Gate) (w : Bool) : (g.motorTakenOff w).motorDrive = false := by
  unfold Gate.motorTakenOff; split <;> rfl
@[simp] theorem StageGate.deenergized_drive (g : StageGate) : g.deenergized.drive = false := rfl
@[simp] theorem StageGate.energizedNow_drive (g : StageGate) : g.energizedNow.drive = false := rfl
@[simp] theorem Gate.motorOn_startOrder (g : Gate) : g.motorOn.startOrder = false := rfl
@[simp] theorem Gate.motorOn_heat1 (g : Gate) : g.motorOn.heat1 = g.heat1 := rfl
@[simp] theorem Gate.motorOn_heat2 (g : Gate) : g.motorOn.heat2 = g.heat2 := rfl
@[simp] theorem StageGate.deenergized_on (g : StageGate) : g.deenergized.on = false := rfl
@[simp] theorem StageGate.energizedNow_on (g : StageGate) : g.energizedNow.on = true := rfl

/-- What EXHAUST HOT becoming inactive makes of a stage, with the limit written out (06, R109, R116). -/
theorem StageGate.cooled_eq (g : StageGate) : g.cooled =
    if g.on = true ∧ g.turnOffPending = true ∧ 10000 ≤ g.minOn then ⟨false, 0, .running 0, false⟩
    else { g with turnOffPending := false } := by
  unfold StageGate.cooled
  simp only [show heatMinOnLimit = 10000 from rfl]
  split
  · next k => exact congrArg (StageGate.mk false 0 · false) (if_neg (by omega))
  · rfl

@[simp] theorem Levels.get_with_self (l : Levels) (i : Input) (b : Bool) : (l.with i b).get i = b := by
  cases i <;> rfl

theorem Levels.get_with_ne (l : Levels) {i j : Input} (b : Bool) (h : j ≠ i) : (l.with i b).get j = l.get j := by
  cases i <;> cases j <;> first | rfl | exact absurd rfl h

/-! ### The line unit and the cycle engine -/

@[simp] theorem LineUnit.receiveNew_score (l : LineUnit) : l.receiveNew.score = l.score := rfl
@[simp] theorem LineUnit.toIdle_state (l : LineUnit) (n : Nat) : (l.toIdle n).state = .idle := rfl
@[simp] theorem LineUnit.toIdle_score (l : LineUnit) (n : Nat) : (l.toIdle n).score = l.score := rfl
@[simp] theorem LineUnit.toIdle_recessive (l : LineUnit) (n : Nat) : (l.toIdle n).recessive = n := rfl
@[simp] theorem Cycle.enter_phase (c : Cycle) (x : Phase) : (c.enter x).phase = x := rfl
@[simp] theorem Cycle.enter_program (c : Cycle) (x : Phase) : (c.enter x).program = c.program := rfl
@[simp] theorem Cycle.ended_phase (c : Cycle) (x : CycleOutcome) : (c.ended x).phase = .idle := rfl
@[simp] theorem Cycle.ended_outcome (c : Cycle) (x : CycleOutcome) : (c.ended x).outcome = x := rfl
@[simp] theorem Cycle.ended_program (c : Cycle) (x : CycleOutcome) : (c.ended x).program = c.program := rfl

end Sys2Proof.Machine
end

