-- ==== Sys2Proof/Laws/Settle.lean ====
section
/-! SUPPORT. What bringing the blocks together does: one fact per step (`fact_*`), all of them true of `p.settle` and
together the same as `Part.Settled`; so settling twice changes nothing, and a settled part is safe. -/

namespace Sys2Proof.Machine

/-! ### The facts -/

/-- 06, R110. -/
abbrev Part.ThermostatFact (p : Part) : Prop :=
  ¬ (p.inp.level.exhaustHot = true ∧ p.cyc.phase = .dry) → p.gate.grace = 0 ∧ p.gate.report = false

/-- 04, R74. -/
abbrev Part.WantsFact (p : Part) : Prop :=
  p.sup.power = .run → p.cyc.heatWant = p.cyc.heatWantNow p.gate.report ∧ p.cyc.laneWant = p.cyc.laneWantNow ∧
    p.cyc.motorWanted = p.cyc.phase.wantsMotor

/-- 06, R112: no start order without a want. -/
abbrev Part.OrderFact (p : Part) : Prop := p.cyc.motorWanted = false → p.gate.startOrder = false

/-- 06, R112, R113. -/
abbrev Part.MotorFact (p : Part) : Prop :=
  (p.gate.motor = true → p.motorMayRun) ∧
    (p.gate.motor = false → ¬ (p.gate.startOrder = true ∧ p.motorMayRun ∧ p.gate.motorMinOff = .reached))

/-- 03, R59. -/
abbrev Part.PermitFact (p : Part) : Prop := p.ctl.permit = p.permitNow

/-- 06, R107, R108, for one stage. -/
abbrev StageGate.HeatFact (g : StageGate) (mayStay : Prop) (exhaustHot : Bool) : Prop :=
  (g.on = true → mayStay) ∧ (g.on = false → ¬ (mayStay ∧ exhaustHot = false ∧ g.minOff = .reached))

/-- 06, R107, R108. -/
abbrev Part.HeatFact (p : Part) : Prop :=
  p.gate.heat1.HeatFact (p.stageMayStay 1) p.inp.level.exhaustHot ∧
    p.gate.heat2.HeatFact (p.stageMayStay 2) p.inp.level.exhaustHot

/-- 04, R80. -/
abbrev Part.StarvationFact (p : Part) : Prop := p.sup.power = .run ∧ 1 ≤ p.ownHeld → p.cyc.starvation = 0

/-- 03, R63, R65, R66, R68. -/
abbrev Part.SendFact (p : Part) : Prop :=
  (p.ctl.send.dark = true → p.ctl.standing.permits .dark = true) ∧
    (p.ctl.send.drop = true ↔ p.dropDue) ∧
    (p.ctl.send.hold = true → p.ctl.standing.permits .hold = true) ∧
    (p.ctl.send.take = true ↔ p.takeDue) ∧ (p.ctl.send.lane = true ↔ p.laneDue)

/-- 03, R70. -/
abbrev Part.WaitFact (p : Part) : Prop := ¬ p.wantUnmet → p.ctl.waitAge = 0

/-- All of them. -/
abbrev Part.Facts (p : Part) : Prop :=
  p.ThermostatFact ∧ p.WantsFact ∧ p.OrderFact ∧ p.MotorFact ∧ p.PermitFact ∧ p.HeatFact ∧ p.StarvationFact ∧
    p.SendFact ∧ p.WaitFact

/-! ### A step does nothing where its fact holds -/

theorem Part.settleThermostat_of_fact {p : Part} (h : p.ThermostatFact) : p.settleThermostat = p := by
  unfold Part.settleThermostat
  split
  · rfl
  · next c => obtain ⟨a, b⟩ := h c; rcases p with ⟨_, _, _, _, _, g, _⟩; cases g; simp_all

theorem Part.settleWants_of_fact {p : Part} (h : p.WantsFact) : p.settleWants = p := by
  unfold Part.settleWants
  split
  · next c => obtain ⟨a, b, d⟩ := h c; rw [← a, ← b, ← d]
  · rfl

theorem Part.settleOrder_of_fact {p : Part} (h : p.OrderFact) : p.settleOrder = p := by
  unfold Part.settleOrder
  split
  · rfl
  · next c => have a := h (by simpa using c); rw [← a]

theorem Part.settleMotor_of_fact {p : Part} (h : p.MotorFact) : p.settleMotor = p := by
  unfold Part.settleMotor
  split
  · next c => rw [if_pos (h.1 c)]
  · next c => rw [if_neg (h.2 (by simpa using c))]

theorem Part.settlePermit_of_fact {p : Part} (h : p.PermitFact) : p.settlePermit = p := by
  unfold Part.settlePermit; rw [← h]

theorem StageGate.settled_of_fact {g : StageGate} {m : Prop} [Decidable m] {x : Bool} (h : g.HeatFact m x) :
    g.settled (decide m) x = g := by
  unfold StageGate.settled
  split
  · next c => rw [if_pos (by simpa using h.1 c)]
  · next c => rw [if_neg]; intro k; exact h.2 (by simpa using c) ⟨by simpa using k.1, k.2.1, k.2.2⟩

theorem Part.settleHeat_of_fact {p : Part} (h : p.HeatFact) : p.settleHeat = p := by
  unfold Part.settleHeat
  rw [StageGate.settled_of_fact h.1, StageGate.settled_of_fact h.2]

theorem Part.settleStarvation_of_fact {p : Part} (h : p.StarvationFact) : p.settleStarvation = p := by
  unfold Part.settleStarvation
  split
  · next c => rw [← h c]
  · rfl

theorem Part.settleSend_of_fact {p : Part} (h : p.SendFact) : p.settleSend = p := by
  obtain ⟨a, b, c, d, e⟩ := h
  have a' : (p.ctl.send.dark && p.ctl.standing.permits .dark) = p.ctl.send.dark := by
    cases x : p.ctl.send.dark <;> simp_all
  have c' : (p.ctl.send.hold && p.ctl.standing.permits .hold) = p.ctl.send.hold := by
    cases x : p.ctl.send.hold <;> simp_all
  have b' : decide p.dropDue = p.ctl.send.drop := by
    rw [Bool.eq_iff_iff, decide_eq_true_iff]; exact b.symm
  have d' : decide p.takeDue = p.ctl.send.take := by
    rw [Bool.eq_iff_iff, decide_eq_true_iff]; exact d.symm
  have e' : decide p.laneDue = p.ctl.send.lane := by
    rw [Bool.eq_iff_iff, decide_eq_true_iff]; exact e.symm
  unfold Part.settleSend
  rw [a', b', c', d', e']

theorem Part.settleWait_of_fact {p : Part} (h : p.WaitFact) : p.settleWait = p := by
  unfold Part.settleWait
  split
  · rfl
  · next c => rw [← h c]

/-- A part of which the facts hold is settled. -/
theorem Part.settled_of_facts {p : Part} (h : p.Facts) : p.Settled := by
  obtain ⟨h1, h2, h3, h4, h5, h6, h7, h8, h9⟩ := h
  unfold Part.Settled Part.settle
  rw [Part.settleThermostat_of_fact h1, Part.settleWants_of_fact h2, Part.settleOrder_of_fact h3,
    Part.settleMotor_of_fact h4, Part.settlePermit_of_fact h5, Part.settleHeat_of_fact h6,
    Part.settleStarvation_of_fact h7, Part.settleSend_of_fact h8, Part.settleWait_of_fact h9]

/-! ### A step brings its fact about, and the later steps keep it -/

theorem Part.thermostatFact (p : Part) : p.settleThermostat.ThermostatFact := by
  unfold Part.settleThermostat; split
  · next c => exact fun n => absurd c n
  · exact fun _ => ⟨rfl, rfl⟩

theorem Part.wantsFact (p : Part) : p.settleWants.WantsFact := by
  unfold Part.settleWants; split
  · exact fun _ => ⟨rfl, rfl, rfl⟩
  · next c => exact fun n => absurd n c

theorem Part.orderFact (p : Part) : p.settleOrder.OrderFact := by
  unfold Part.settleOrder; split
  · next c => intro n; simp_all
  · exact fun _ => rfl

theorem Part.motorFact (p : Part) : p.settleMotor.MotorFact := by
  unfold Part.settleMotor; split
  · next c =>
    split
    · next d => exact ⟨fun _ => d, fun n => by simp_all⟩
    · next d => exact ⟨fun n => absurd n (by simp), fun _ n => d n.2.1⟩
  · next c =>
    split
    · next d => exact ⟨fun _ => d.2.1, fun n => absurd n (by simp [Gate.motorOn])⟩
    · next d => exact ⟨fun n => absurd n c, fun _ => d⟩

theorem Part.permitFact (p : Part) : p.settlePermit.PermitFact := rfl

theorem StageGate.heatFact (g : StageGate) (m : Prop) [Decidable m] (x : Bool) :
    (g.settled (decide m) x).HeatFact m x := by
  unfold StageGate.settled
  split
  · next c =>
    split
    · next d => exact ⟨fun _ => by simpa using d, fun n => by simp_all⟩
    · next d => exact ⟨fun n => absurd n (by simp [StageGate.deenergized]), fun _ n => d (by simpa using n.1)⟩
  · next c =>
    split
    · next d => exact ⟨fun _ => by simpa using d.1, fun n => absurd n (by simp [StageGate.energizedNow])⟩
    · next d => exact ⟨fun n => absurd n c, fun _ n => d ⟨by simpa using n.1, n.2.1, n.2.2⟩⟩

theorem Part.heatFact (p : Part) : p.settleHeat.HeatFact :=
  ⟨StageGate.heatFact p.gate.heat1 (p.stageMayStay 1) p.inp.level.exhaustHot,
    StageGate.heatFact p.gate.heat2 (p.stageMayStay 2) p.inp.level.exhaustHot⟩

theorem Part.starvationFact (p : Part) : p.settleStarvation.StarvationFact := by
  unfold Part.settleStarvation; split
  · exact fun _ => rfl
  · next c => exact fun n => absurd n c

theorem Part.sendFact (p : Part) : p.settleSend.SendFact := by
  refine ⟨fun n => ?_, ?_, fun n => ?_, ?_, ?_⟩
  · exact (Bool.and_eq_true_iff.mp n).2
  · exact decide_eq_true_iff (p := p.dropDue)
  · exact (Bool.and_eq_true_iff.mp n).2
  · exact decide_eq_true_iff (p := p.takeDue)
  · exact decide_eq_true_iff (p := p.laneDue)

theorem Part.waitFact (p : Part) : p.settleWait.WaitFact := by
  unfold Part.settleWait; split
  · next c => exact fun n => absurd c n
  · exact fun _ => rfl

theorem Part.ThermostatFact.afterWants {p : Part} (h : p.ThermostatFact) : p.settleWants.ThermostatFact := by
  unfold Part.settleWants; (repeat' split) <;> exact h
theorem Part.ThermostatFact.afterOrder {p : Part} (h : p.ThermostatFact) : p.settleOrder.ThermostatFact := by
  unfold Part.settleOrder; (repeat' split) <;> exact h
theorem Part.ThermostatFact.afterMotor {p : Part} (h : p.ThermostatFact) : p.settleMotor.ThermostatFact := by
  unfold Part.settleMotor Gate.motorTakenOff; (repeat' split) <;> exact h
theorem Part.ThermostatFact.afterPermit {p : Part} (h : p.ThermostatFact) : p.settlePermit.ThermostatFact := h
theorem Part.ThermostatFact.afterHeat {p : Part} (h : p.ThermostatFact) : p.settleHeat.ThermostatFact := h
theorem Part.ThermostatFact.afterStarvation {p : Part} (h : p.ThermostatFact) : p.settleStarvation.ThermostatFact := by
  unfold Part.settleStarvation; (repeat' split) <;> exact h
theorem Part.ThermostatFact.afterSend {p : Part} (h : p.ThermostatFact) : p.settleSend.ThermostatFact := h
theorem Part.ThermostatFact.afterWait {p : Part} (h : p.ThermostatFact) : p.settleWait.ThermostatFact := by
  unfold Part.settleWait; (repeat' split) <;> exact h
theorem Part.WantsFact.afterOrder {p : Part} (h : p.WantsFact) : p.settleOrder.WantsFact := by
  unfold Part.settleOrder; (repeat' split) <;> exact h
theorem Part.WantsFact.afterMotor {p : Part} (h : p.WantsFact) : p.settleMotor.WantsFact := by
  unfold Part.settleMotor Gate.motorTakenOff; (repeat' split) <;> exact h
theorem Part.WantsFact.afterPermit {p : Part} (h : p.WantsFact) : p.settlePermit.WantsFact := h
theorem Part.WantsFact.afterHeat {p : Part} (h : p.WantsFact) : p.settleHeat.WantsFact := h
theorem Part.WantsFact.afterStarvation {p : Part} (h : p.WantsFact) : p.settleStarvation.WantsFact := by
  unfold Part.settleStarvation; (repeat' split) <;> exact h
theorem Part.WantsFact.afterSend {p : Part} (h : p.WantsFact) : p.settleSend.WantsFact := h
theorem Part.WantsFact.afterWait {p : Part} (h : p.WantsFact) : p.settleWait.WantsFact := by
  unfold Part.settleWait; (repeat' split) <;> exact h
theorem Part.OrderFact.afterMotor {p : Part} (h : p.OrderFact) : p.settleMotor.OrderFact := by
  unfold Part.settleMotor Gate.motorTakenOff; (repeat' split) <;> first | exact h | exact fun _ => rfl | exact id
theorem Part.OrderFact.afterPermit {p : Part} (h : p.OrderFact) : p.settlePermit.OrderFact := h
theorem Part.OrderFact.afterHeat {p : Part} (h : p.OrderFact) : p.settleHeat.OrderFact := h
theorem Part.OrderFact.afterStarvation {p : Part} (h : p.OrderFact) : p.settleStarvation.OrderFact := by
  unfold Part.settleStarvation; (repeat' split) <;> exact h
theorem Part.OrderFact.afterSend {p : Part} (h : p.OrderFact) : p.settleSend.OrderFact := h
theorem Part.OrderFact.afterWait {p : Part} (h : p.OrderFact) : p.settleWait.OrderFact := by
  unfold Part.settleWait; (repeat' split) <;> exact h
theorem Part.MotorFact.afterPermit {p : Part} (h : p.MotorFact) : p.settlePermit.MotorFact := h
theorem Part.MotorFact.afterHeat {p : Part} (h : p.MotorFact) : p.settleHeat.MotorFact := h
theorem Part.MotorFact.afterStarvation {p : Part} (h : p.MotorFact) : p.settleStarvation.MotorFact := by
  unfold Part.settleStarvation; (repeat' split) <;> exact h
theorem Part.MotorFact.afterSend {p : Part} (h : p.MotorFact) : p.settleSend.MotorFact := h
theorem Part.MotorFact.afterWait {p : Part} (h : p.MotorFact) : p.settleWait.MotorFact := by
  unfold Part.settleWait; (repeat' split) <;> exact h
theorem Part.PermitFact.afterHeat {p : Part} (h : p.PermitFact) : p.settleHeat.PermitFact := h
theorem Part.PermitFact.afterStarvation {p : Part} (h : p.PermitFact) : p.settleStarvation.PermitFact := by
  unfold Part.settleStarvation; (repeat' split) <;> exact h
theorem Part.PermitFact.afterSend {p : Part} (h : p.PermitFact) : p.settleSend.PermitFact := h
theorem Part.PermitFact.afterWait {p : Part} (h : p.PermitFact) : p.settleWait.PermitFact := by
  unfold Part.settleWait; (repeat' split) <;> exact h
theorem Part.HeatFact.afterStarvation {p : Part} (h : p.HeatFact) : p.settleStarvation.HeatFact := by
  unfold Part.settleStarvation; (repeat' split) <;> exact h
theorem Part.HeatFact.afterSend {p : Part} (h : p.HeatFact) : p.settleSend.HeatFact := h
theorem Part.HeatFact.afterWait {p : Part} (h : p.HeatFact) : p.settleWait.HeatFact := by
  unfold Part.settleWait; (repeat' split) <;> exact h
theorem Part.StarvationFact.afterSend {p : Part} (h : p.StarvationFact) : p.settleSend.StarvationFact := h
theorem Part.StarvationFact.afterWait {p : Part} (h : p.StarvationFact) : p.settleWait.StarvationFact := by
  unfold Part.settleWait; (repeat' split) <;> exact h
theorem Part.SendFact.afterWait {p : Part} (h : p.SendFact) : p.settleWait.SendFact := by
  unfold Part.settleWait; (repeat' split) <;> exact h

/-- Every fact holds of what settling leaves. -/
theorem Part.settle_facts (p : Part) : p.settle.Facts :=
  ⟨p.thermostatFact.afterWants.afterOrder.afterMotor.afterPermit.afterHeat.afterStarvation.afterSend.afterWait,
    (Part.wantsFact _).afterOrder.afterMotor.afterPermit.afterHeat.afterStarvation.afterSend.afterWait,
    (Part.orderFact _).afterMotor.afterPermit.afterHeat.afterStarvation.afterSend.afterWait,
    (Part.motorFact _).afterPermit.afterHeat.afterStarvation.afterSend.afterWait,
    (Part.permitFact _).afterHeat.afterStarvation.afterSend.afterWait,
    (Part.heatFact _).afterStarvation.afterSend.afterWait,
    (Part.starvationFact _).afterSend.afterWait,
    (Part.sendFact _).afterWait,
    Part.waitFact _⟩

/-- Settling twice changes nothing. -/
theorem Part.settle_settled (p : Part) : p.settle.Settled := Part.settled_of_facts p.settle_facts

/-- The facts hold of a settled part. -/
theorem Part.facts_of_settled {p : Part} (h : p.Settled) : p.Facts := by
  have k := p.settle_facts
  rwa [show p.settle = p from h] at k

/-- Being settled, field by field. -/
theorem Part.settled_iff_facts {p : Part} : p.Settled ↔ p.Facts := ⟨Part.facts_of_settled, Part.settled_of_facts⟩

/-! ### Each step as one update -/

/-- R110, as one update. -/
theorem Part.settleThermostat_eq (p : Part) : p.settleThermostat = { p with gate := { p.gate with
   grace := if p.inp.level.exhaustHot = true ∧ p.cyc.phase = .dry then p.gate.grace else 0
   report := p.gate.report && decide (p.inp.level.exhaustHot = true ∧ p.cyc.phase = .dry) } } := by
  unfold Part.settleThermostat; split
  · next c => simp only [decide_eq_true c, Bool.and_true]
  · next c => simp only [decide_eq_false c, Bool.and_false]

/-- R74, as one update. -/
theorem Part.settleWants_eq (p : Part) : p.settleWants = { p with cyc := { p.cyc with
   heatWant := if p.sup.power = .run then
        (if p.cyc.phase = .dry ∧ p.cyc.heatBarred = false ∧ p.gate.report = false
          then (p.cyc.program.map (·.stages)).getD 0 else 0)
      else p.cyc.heatWant
   laneWant := if p.sup.power = .run then
        (if p.cyc.phase = .startWait then some (if p.cyc.resumed = true then 0 else 1)
          else if p.cyc.phase = .burstWait then some 2 else none)
      else p.cyc.laneWant
   motorWanted := if p.sup.power = .run then
        decide (p.cyc.phase = .spinup ∨ p.cyc.phase = .dry ∨ p.cyc.phase = .cool ∨ p.cyc.phase = .burst)
      else p.cyc.motorWanted } } := by
  have h1 : p.cyc.laneWantNow = if p.cyc.phase = .startWait then some (if p.cyc.resumed = true then 0 else 1)
      else if p.cyc.phase = .burstWait then some 2 else none := by
    unfold Cycle.laneWantNow; cases p.cyc.phase <;> rfl
  have h2 : p.cyc.phase.wantsMotor = decide (p.cyc.phase = .spinup ∨ p.cyc.phase = .dry ∨ p.cyc.phase = .cool ∨
      p.cyc.phase = .burst) := by cases p.cyc.phase <;> rfl
  unfold Part.settleWants; split
  · next c => simp only [h1, h2]; rfl
  · next c => simp only

/-- R112, as one update. -/
theorem Part.settleOrder_eq (p : Part) :
    p.settleOrder = { p with gate := { p.gate with startOrder := p.gate.startOrder && p.cyc.motorWanted } } := by
  unfold Part.settleOrder; split
  · next c => simp only [c, Bool.and_true]
  · next c => simp only [(by simpa using c : p.cyc.motorWanted = false), Bool.and_false]

/-- R112, R113, R116, as one update, with the start order as it stood before the wants were worked out. -/
theorem Part.settleMotor_eq (p : Part) (w : Bool) (h : p.gate.startOrder = (w && p.cyc.motorWanted)) :
    p.settleMotor = { p with gate :=
      if p.gate.motor = true then
        if p.motorMayRun then p.gate
        else if p.gate.pastStart = false then
          { p.gate with motor := false, startOrder := p.cyc.motorWanted, watch := .none, rotation := .stopped }
        else { p.gate with motor := false, motorMinOff := .running 0, watch := .none, rotation := .stopped }
      else if p.motorMayRun ∧ w = true ∧ p.gate.motorMinOff = .reached then
        { p.gate with
          motor := true, startOrder := false, watch := .confirming, rotation := .running 0, pastStart := false }
      else p.gate } := by
  unfold Part.settleMotor; split
  · next c =>
    split
    · rfl
    · unfold Gate.motorTakenOff Gate.justStarted; simp only [c, true_and]; rfl
  · next c =>
    have : (p.gate.startOrder = true ∧ p.motorMayRun ∧ p.gate.motorMinOff = .reached) ↔
        (p.motorMayRun ∧ w = true ∧ p.gate.motorMinOff = .reached) := by
      rw [h]; simp only [Bool.and_eq_true, Part.motorMayRun]; tauto
    split
    · next d => rw [if_pos (this.mp d)]; rfl
    · next d => rw [if_neg (fun k => d (this.mpr k))]

/-- R80, as one update. -/
theorem Part.settleStarvation_eq (p : Part) :
    p.settleStarvation = { p with cyc := { p.cyc with
      starvation := if p.sup.power = .run ∧ 1 ≤ p.ownHeld then 0 else p.cyc.starvation } } := by
  unfold Part.settleStarvation; split
  · next c => simp only
  · next c => simp only

/-- R70, as one update. -/
theorem Part.settleWait_eq (p : Part) :
    p.settleWait = { p with ctl := { p.ctl with
      waitAge := if p.ownHeld < p.cyc.heatWant ∨ p.cyc.laneWant ≠ none then p.ctl.waitAge else 0 } } := by
  have : p.wantUnmet ↔ p.ownHeld < p.cyc.heatWant ∨ p.cyc.laneWant ≠ none := by
    simp [Part.wantUnmet, Option.isSome_iff_ne_none]
  unfold Part.settleWait; split
  · next c => simp only [if_pos (this.mp c)]
  · next c => simp only [if_neg (fun k => c (this.mpr k))]

/-- R107, R108 for one stage, case by case. -/
theorem StageGate.settled_eq (g : StageGate) (m x : Bool) : g.settled m x =
      if g.on = true then
        if m = true then g else StageGate.mk false 0 (if g.minOn = 0 then .reached else .running 0) false
      else if m = true ∧ ¬ x = true ∧ g.minOff = .reached then ⟨true, 0, .reached, false⟩
      else g := by
  unfold StageGate.settled; split
  · rfl
  · next c =>
    have : (m = true ∧ x = false ∧ g.minOff = .reached) ↔ (m = true ∧ ¬ x = true ∧ g.minOff = .reached) := by simp
    split
    · next d => rw [if_pos (this.mp d)]; unfold StageGate.energizedNow; rw [d.2.2]
    · next d => rw [if_neg (fun k => d (this.mpr k))]

/-- R63: DARK and HOLD after the set is worked out. -/
theorem Part.settleSend_eq (p : Part) : p.settleSend = { p with ctl := { p.ctl with send := { p.settleSend.ctl.send with
          dark := p.ctl.send.dark && decide (p.ctl.standing = .dark)
          hold := p.ctl.send.hold && decide (p.ctl.standing = .active ∨ p.ctl.standing = .isolated) } } } := by
  have h1 : p.ctl.standing.permits .dark = decide (p.ctl.standing = .dark) := by cases p.ctl.standing <;> rfl
  have h2 : p.ctl.standing.permits .hold = decide (p.ctl.standing = .active ∨ p.ctl.standing = .isolated) := by
    cases p.ctl.standing <;> rfl
  simp only [Part.settleSend, h1, h2]

/-- Working out a stage raises no enable output. -/
theorem StageGate.settled_drive (g : StageGate) (m x : Bool) :
    (g.settled m x).drive = true → g.drive = true ∧ (g.settled m x).on = true := by
  unfold StageGate.settled StageGate.drive; split
  · split
    · simp_all
    · simp
  · split
    · simp [StageGate.energizedNow]
    · simp_all

/-- Working out MOTOR leaves the stages alone and raises no enable output. -/
theorem Part.settleMotor_keeps (p : Part) :
    p.settleMotor.gate.heat1 = p.gate.heat1 ∧
    p.settleMotor.gate.heat2 = p.gate.heat2 ∧
    (p.settleMotor.gate.motorDrive = true → p.gate.motorDrive = true) := by
  unfold Part.settleMotor
  split
  · split
    · exact ⟨rfl, rfl, id⟩
    · simp
  · split
    · exact ⟨rfl, rfl, by simp⟩
    · exact ⟨rfl, rfl, id⟩

end Sys2Proof.Machine
end

