-- ==== Sys2Proof/Laws/Kept.lean ====
section
/-! SUPPORT. Which shared operations leave a settled part settled, cited by every proof that a command does. -/

namespace Sys2Proof.Machine

/-- Being settled is a matter of these seven parts of the state alone. -/
theorem Part.Settled.congr {p q : Part} (h : p.Settled) (hs : q.station = p.station) (hr : q.roster = p.roster)
    (hc : q.ctl = p.ctl) (hy : q.cyc = p.cyc) (hg : q.gate = p.gate) (hl : q.inp.level = p.inp.level)
    (hp : q.sup.power = p.sup.power) : q.Settled := by
  rw [Part.settled_iff_facts] at *
  obtain ⟨_, _, _, _, _, _, ⟨pw, _⟩, _, _, _, ⟨_, _⟩, _, _, _⟩ := p
  obtain ⟨_, _, _, _, _, _, ⟨pw', _⟩, _, _, _, ⟨_, _⟩, _, _, _⟩ := q
  simp only at hs hr hc hy hg hl hp
  subst hs hr hc hy hg hl hp
  exact h

/-- A part whose roster, controller, engine and gate hold their start values is settled. -/
theorem Part.settled_of_start {q : Part} (hr : q.roster = Roster.start) (hc : q.ctl = Controller.start)
    (hy : q.cyc = Cycle.start) (hg : q.gate = Gate.start) : q.Settled := by
  rw [Part.settled_iff_facts]
  obtain ⟨_, _, _, _, _, _, ⟨pw', _⟩, _, _, _, ⟨_, _⟩, _, _, _⟩ := q
  simp only at hr hc hy hg
  subst hr hc hy hg
  exact ⟨fun _ => ⟨rfl, rfl⟩, fun _ => ⟨rfl, rfl, rfl⟩, fun _ => rfl, ⟨nofun, fun _ h => nomatch h.1⟩, rfl,
    ⟨⟨nofun, fun _ h => nomatch h.2.2⟩, ⟨nofun, fun _ h => nomatch h.2.2⟩⟩, fun _ => rfl,
    ⟨nofun, ⟨nofun, fun h => nomatch h.1⟩, nofun, ⟨nofun, fun h => nomatch h.1⟩, ⟨nofun, fun h => nomatch h.1⟩⟩,
    fun _ => rfl⟩

theorem Part.lose_settled (p : Part) (u : Supply) : Part.Settled { p.lose with sup := u } :=
  Part.settled_of_start rfl rfl rfl rfl

theorem Part.startPath_settled (p : Part) (u : Supply) (path : ResetPath) :
    Part.Settled { p.startPath path with sup := u } :=
  Part.settled_of_start rfl rfl rfl rfl

theorem Part.leaveStandby_settled (p : Part) : p.leaveStandby.Settled := by
  unfold Part.leaveStandby; split <;> exact Part.startPath_settled _ _ _

theorem Part.collapse_settled (p : Part) : p.collapse.Settled := Part.lose_settled _ _

theorem Part.enterStandby_settled (p : Part) (warm : Bool) : (p.enterStandby warm).Settled := by
  unfold Part.enterStandby; dsimp only; split
  · exact Part.collapse_settled _
  · split
    · exact Part.leaveStandby_settled _
    · exact Part.lose_settled _ _

theorem Part.Settled.rideCheck {p : Part} (h : p.Settled) : p.rideCheck.Settled := by
  unfold Part.rideCheck
  split
  · split
    · exact h.congr rfl rfl rfl rfl rfl rfl rfl
    · split
      · exact h
      · exact Part.enterStandby_settled _ _
  · exact h

theorem Part.executeStationReset_settled (p : Part) : p.executeStationReset.Settled :=
  (Part.startPath_settled { p with port := p.port } _ .stationReset).congr rfl rfl rfl rfl rfl rfl rfl

theorem Part.afterLine_settled (p : Part) : p.afterLine.Settled := p.settle_settled.rideCheck

theorem Part.Settled.onQuiet {p : Part} (h : p.Settled) : p.onQuiet.Settled := by
  unfold Part.onQuiet; dsimp only; split
  · exact Part.executeStationReset_settled _
  · exact Part.Settled.rideCheck (h.congr rfl rfl rfl rfl rfl rfl rfl)

theorem Part.Settled.startFrame {p : Part} (h : p.Settled) : p.startFrame.Settled := by
  unfold Part.startFrame; split
  · exact h
  · rw [Part.settled_iff_facts] at *
    exact h

theorem Part.Settled.requestCheckpoint {p : Part} (h : p.Settled) : p.requestCheckpoint.Settled :=
  h.congr (by simp) (by simp) (by simp) (by simp) (by simp) (by simp) (by simp)

theorem Part.Settled.exchange {p : Part} (h : p.Settled) (clocked : Nat) {release : Part → Part}
    (hrelease : ∀ q : Part, q.Settled → (release q).Settled) : (p.exchange clocked release).Settled := by
  unfold Part.exchange; split
  · split
    · exact h.congr rfl rfl rfl rfl rfl rfl rfl
    · exact hrelease _ (h.congr rfl rfl rfl rfl rfl rfl rfl)
  · exact h

theorem Part.Settled.request {p : Part} (h : p.Settled) (clocked : Nat) {run : Part → Part}
    (hrun : ∀ q : Part, q.Settled → (run q).Settled) : (p.request clocked run).Settled :=
  h.exchange clocked fun _ hq => hrun _ (hq.congr rfl rfl rfl rfl rfl rfl rfl)

end Sys2Proof.Machine
end

