-- ==== Sys2Proof/Tests/Slice0.lean ====
section
/-! SUPPORT. The model's own tests: the operand checks with an ill-formed term each, the formats written out, a few
commands, and for every statement with hypotheses a state and operands that meet them, clause by clause. -/

open Sys2Proof Sys2Proof.Machine

namespace Sys2Proof.Tests

/-! ## Small states -/

/-- A configuration: budget 6, spacing 3 s, reheat 10 min, limit 2, trigger 4. -/
def config : Configuration := ⟨6, 3, 10, 2, 4⟩

/-- A program: 60 min, 2 stages, 5 min, 90 min, 20 s, 10 min. -/
def program : Program := ⟨60, 2, 5, 90, 20, 10⟩

/-- In RUN after a decision without a checkpoint. -/
def running : State := { State.reset with
  sup := { Supply.cold with power := .run, settle := .stopped }
  jrn := { Journal.start .erased .erased with startRead := false }
  res := ⟨.power, true, .unknown, some .long⟩ }

/-- In RUN with a configuration and a standing. -/
def standing (x : Standing) : State := { running with
  ctl := { Controller.start with standing := x, config := some config } }

/-- In RUN, ACTIVE, in a phase with a target and a program. -/
def phase (x : Phase) (t : Target) : State := { standing .active with
  cyc := { Cycle.start with phase := x, target := t, program := some program } }

/-- The same state with another line unit. -/
def onLine (s : State) (x : LineState) (r : Role) : State := { s with line := { s.line with state := x, role := r } }

/-- The same state with another power state. -/
def powered (s : State) (x : Power) : State := { s with sup := { s.sup with power := x } }

/-- The same state with a stage count in an entry that is PRESENT. -/
def holding (s : State) (i : Station) (n : Nat) (c : Option PhaseClass) (b : Option Nat) : State :=
  { s with roster := s.roster.withEntry i { Entry.start with
      presence := .present, held := n, phaseClass := c, declaredBudget := b, sinceHeard := 6000 } }

/-- The same state with a pending-send set. -/
def sending (s : State) (x : SendSet) : State := { s with ctl := { s.ctl with send := x } }

/-- In DRY with two stages held and energized, MOTOR turning, for a while. -/
def heating : State := { holding (phase .dry .none) 0 2 none none with gate := { Gate.start with
  heat1 := ⟨true, 5, .reached, false⟩, heat2 := ⟨true, 5, .reached, false⟩, motor := true, motorMinOff := .reached,
  watch := .running, rotation := .running 5, pastStart := true } }

/-- A record of a phase, with a resume count. -/
def record (x : Phase) (t : Target) (count : Nat) : Record :=
  ⟨1, 0, config, x, t, some program, 1200, 100, 700, 0, 0, count, false, false, false, .none, 0⟩

/-- The same state with a record in slot A, known as the newest. -/
def recorded (s : State) (r : Record) : State := { s with jrn := { s.jrn with
  slotA := .record r, newest := some .a, newestSequence := some r.sequence } }

/-- A TAKE of station 9 in its aging 12, one stage added, one held after. -/
def take9 : Frame := ⟨1, 12, 8, .take 1 1⟩

/-! ## The operand checks (Sys2Proof/WellFormed.lean) -/

theorem test_kind4_is_no_invalid_kind : (Instr.invalidKindAbandon 4).wellFormed = false := by decide
theorem test_kind5_is_invalid : (Instr.invalidKindAbandon 5).wellFormed = true := by decide
theorem test_no_frame_of_38_bits : (Instr.closingSpacerEnd (List.replicate 38 true)).wellFormed = false := by decide
theorem test_dark_has_37_bits : (Instr.closingSpacerEnd (List.replicate 37 true)).wellFormed = true := by decide
theorem test_configure_is_known : (Instr.unknownCommand 0x11).wellFormed = false := by decide
theorem test_fetch_is_no_request : (Instr.unknownCommand 0xFF).wellFormed = false := by decide
theorem test_10h_is_unknown : (Instr.unknownCommand 0x10).wellFormed = true := by decide
theorem test_configure_of_5_bytes_is_complete : (Instr.incompleteRequest 0x11 5).wellFormed = false := by decide
theorem test_configure_of_4_bytes_is_incomplete : (Instr.incompleteRequest 0x11 4).wellFormed = true := by decide
theorem test_unknown_is_never_incomplete : (Instr.incompleteRequest 0x10 0).wellFormed = false := by decide
theorem test_busy_needs_a_byte : (Instr.requestWhileBusy 0).wellFormed = false := by decide
theorem test_busy_of_1_byte : (Instr.requestWhileBusy 1).wellFormed = true := by decide

/-! ## Formats written out from the spec -/

theorem test_no_word_spells_a_command : decodeTableWord 16 5 = none := rfl

/-- 01, section 1.9: the key of station 9, bit by bit. -/
theorem test_key_of_take9 : take9.keyBits =
    [false, true, true, false, true, true, true, false, false, true, false, false, false] := by decide

/-- 01, Table 1-3: standing 1, held 0, budget 6, phase class CREASE. -/
theorem test_body_of_hold : (Body.hold 1 0 5 4).bits =
    [false, true, false, false, false, false, true, false, true, true, false, false] := by decide

/-- 01, R2: a spacer after the fourth bit and a closing spacer. -/
theorem test_spacers : withSpacers [true, true, false, false, true, false] =
    [true, true, false, false, true, true, false, true] := by decide

theorem test_take9_is_read_back : readFrame take9.composed.wireBits = some (take9, false) := by decide +kernel

/-- 01, R19: stages added 2 with held after 1 is a FORM error. -/
theorem test_take_form_error :
    readFrame (Frame.composed ⟨1, 12, 8, .take 2 1⟩).wireBits = some (⟨1, 12, 8, .take 2 1⟩, true) := by decide +kernel

theorem test_straps_0_is_station_16 : stationNumber (stationOfStraps 0) = 16 := by decide
theorem test_straps_1_is_station_1 : stationNumber (stationOfStraps 1) = 1 := by decide

/-- 01, R26: highest byte first. -/
theorem test_window_bytes : program.bytes = [60, 2, 5, 0, 90, 20, 10] := by decide

/-! ## A few commands -/

theorem test_settle_expiry :
    ∃ t, exec .settleExpiry { State.reset with sup := { Supply.cold with settle := .running 500 } } = .next t ∧
      t.sup.power = .qualify ∧ t.sup.qualification = .running 0 := ⟨_, rfl, rfl, rfl⟩

theorem test_unknown_command_is_answered_05h :
    ∃ t, exec (.unknownCommand 0x10) running = .next t ∧ t.port.reply = [5] ∧ t.port.state = .replyReady ∧
      t.port.onSdo 0 = 0 ∧ t.port.onSdo 7 = 0 := ⟨_, rfl, by decide, by decide, by decide⟩

theorem test_configure_out_of_range :
    ∃ t, exec (.configure 33 3 10 2 4) running = .next t ∧ t.port.reply = [2] := ⟨_, rfl, by decide⟩

theorem test_configure_leads_to_listening :
    ∃ t, exec (.configure 6 3 10 2 4) running = .next t ∧ t.port.reply = [0] ∧ t.ctl.standing = .listening ∧
      t.ctl.listen = .running 0 := ⟨_, rfl, by decide, by decide, by decide⟩

theorem test_begin_enters_start_wait :
    ∃ t, exec (.beginCycle 60 2 5 90 20 10) (standing .active) = .next t ∧ t.port.reply = [0] ∧
      t.cyc.phase = .startWait ∧ t.cyc.remainingDry = 3600 ∧ t.cyc.laneWant = some 1 :=
  ⟨_, rfl, by decide, by decide, by decide, by decide⟩

theorem test_door_abandons_drying :
    ∃ t, exec (.inputChange .door true) (phase .dry .none) = .next t ∧ t.cyc.phase = .idle ∧
      t.cyc.outcome = .abandoned := ⟨_, rfl, by decide, by decide⟩

theorem test_standing_bytes : running.standingBytes.take 8 = [0, 3, 0, 0, 0, 0, 255, 0] := by decide

theorem test_lane_spacing_expiry :
    ∃ t, exec .laneSpacingExpiry { running with roster := { Roster.start with lane := some ⟨3, 0⟩ } } = .next t ∧
      t.roster.lane = none := ⟨_, rfl, by decide⟩

/-- 01, section 1.3: bit times of a frame, with its start mark and slot. -/
theorem test_bit_times : ([⟨0, 15, 8, .dark⟩, ⟨0, 15, 8, .drop 1 0⟩, ⟨0, 15, 8, .hold 0 0 5 0⟩, take9, ⟨1, 15, 8, .lane 1⟩] :
    List Frame).map (fun f => f.composed.lineBits.length) = [47, 52, 62, 52, 49] := by decide +kernel

/-- 01, R26: Table 1-4's bytes, the window highest byte first, one byte too many. -/
theorem test_begin_exchange : Instr.ofExchange false 1 [0x12, 60, 2, 5, 2, 208, 20, 10, 0] =
    some (.beginCycle 60 2 5 720 20 10) := by decide +kernel

theorem test_exchange_while_executing : Instr.ofExchange true 1 [0x24] = some (.requestWhileBusy 1) := by decide +kernel

/-- 10, R162: TAKE NOTICE clocked bit by bit, the highest first, and two bits more. -/
theorem test_take_notice_by_bits :
    Instr.ofClocks false 1 [false, false, true, false, false, true, false, false, true, true] = some .takeNotice := by
  decide +kernel

/-- 10, R162, R165: BUSY on SDO, bit by bit. -/
theorem test_busy_on_sdo :
    (List.range 10).map (Port.sdoBit ⟨.executing, some .clear, [], [4]⟩) =
      [false, false, false, false, false, true, false, false, false, false] := by decide

/-! ## Events that fall together (R29, R42, R100, R115, R116, R131) -/

/-- A collapse taken first: the mains return applies VDD, and the path is POWER (R131, log 37). -/
theorem test_return_after_the_collapse :
    ∃ t u, exec (.backupCollapse true) (powered running .standby) = .next t ∧
      exec (.standbyMainsReturn 1) t = .next u ∧ u.sup = Supply.cold ∧ u.res.path = .power :=
  ⟨_, _, rfl, rfl, by decide, by decide⟩

/-- A LANE taken first leaves its own spacing: the old one does not expire (R29). -/
theorem test_restarted_spacing_does_not_expire :
    ∃ t, exec .laneSpacingExpiry { running with roster := { Roster.start with lane := some ⟨3, 3000⟩ } } = .next t ∧
      t.roster.lane = some ⟨3, 3000⟩ := ⟨_, rfl, by decide⟩

/-- A pulse taken first leaves nothing to report (R115). -/
theorem test_pulse_before_rotation_lost :
    ∃ t, exec .rotationLost { phase .dry .none with
        gate := { Gate.start with motor := true, watch := .running, rotation := .running 0 } } = .next t ∧
      t.gate.motor = true ∧ t.cyc.phase = .dry := ⟨_, rfl, by decide, by decide⟩

/-- MOTOR, its min-off elapsed, starts on a lane grant. -/
def granted : State := { phase .burst .none with
  gate := { Gate.start with motor := true, motorMinOff := .reached, watch := .confirming, rotation := .running 0 } }

/-- DOOR at the moment of the grant: MOTOR stays off, its min-off elapsed, with no order (R100, R116). -/
theorem test_door_with_the_grant :
    ∃ t, exec (.inputChange .door true) granted = .next t ∧ t.cyc.outcome = .collected ∧ t.gate.motor = false ∧
      t.gate.motorMinOff = .reached ∧ t.gate.startOrder = false :=
  ⟨_, rfl, by decide, by decide, by decide, by decide⟩

/-- The grant's own step drives nothing: the enable output follows when time passes (R100, R116). -/
theorem test_grant_drives_nothing :
    let ordered : Part := Part.settle { phase .burst .none with
      gate := { Gate.start with startOrder := true, motorMinOff := .reached } }
    ordered.gate = granted.gate ∧ ordered.gate.motorDrive = false ∧ ordered.tick.gate.motorDrive = true := by decide

/-- The same with a TACH pulse between the grant and DOOR (R116, log 36). -/
theorem test_door_with_the_grant_and_a_pulse :
    ∃ t u, exec .tachPulse granted = .next t ∧ t.gate.watch = .running ∧ exec (.inputChange .door true) t = .next u ∧
      u.gate.motor = false ∧ u.gate.motorMinOff = .reached ∧ u.gate.watch = .none :=
  ⟨_, _, rfl, by decide, rfl, by decide, by decide, by decide⟩

/-- DOOR one millisecond later: MOTOR goes off for its min-off (R113). -/
theorem test_door_after_the_grant :
    ∃ t, exec (.inputChange .door true) { granted with toPart := granted.tick } = .next t ∧ t.gate.motor = false ∧
      t.gate.motorMinOff = .running 0 := ⟨_, rfl, by decide, by decide⟩

/-- ROTATION LOST with a burst that is over: HALTED with burst remaining 0 (R100). -/
theorem test_rotation_lost_at_the_end_of_a_burst :
    ∃ t, exec .rotationLost { phase .burst .none with
        cyc := { (phase .burst .none).cyc with burst := ⟨1, 1000⟩ }
        gate := { Gate.start with motor := true, watch := .running, rotation := .running 3000 } } = .next t ∧
      t.cyc.phase = .halted ∧ t.cyc.burst = ⟨0, 0⟩ := ⟨_, rfl, by decide, by decide⟩

/-- A turn-off due together with EXHAUST HOT becoming inactive: off in either order, min-off running (R116, last
paragraph; log 34). -/
theorem test_turn_off_due_with_exhaust_hot_inactive :
    let due : State := { heating with
      inp := ⟨⟨false, true, false, true⟩, ⟨false, true, false, true⟩⟩
      gate := { heating.gate with heat1 := ⟨true, 10000, .reached, true⟩ } }
    (∃ t, exec (.inputChange .exhaustHot false) due = .next t ∧ t.gate.heat1 = ⟨false, 0, .running 0, false⟩ ∧
      t.gate.heat2.on = true ∧ exec (.heatMinOnReached .one) t = .next t) ∧
    ∃ t, exec (.heatMinOnReached .one) due = .next t ∧ t.gate.heat1 = ⟨false, 0, .running 0, false⟩ :=
  ⟨⟨_, rfl, by decide +kernel, by decide +kernel, rfl⟩, ⟨_, rfl, by decide +kernel⟩⟩

/-- MAINS becoming active together with the 40 ms: the declaration is taken in either order (R116, R122; log 34). -/
theorem test_mains_with_the_declaration :
    let due : State := { heating with
      inp := ⟨⟨false, false, false, false⟩, ⟨false, false, false, false⟩⟩
      sup := { heating.sup with absence := .running 40 } }
    ∃ t, exec (.inputChange .mains true) due = .next t ∧ t.inp.level.mains = true ∧
      ∃ u, exec .mainsDeclaredAbsent t = .next u ∧ u.sup.power = .ride ∧ u.gate.motor = false :=
  ⟨_, rfl, by decide +kernel, _, rfl, by decide +kernel, by decide +kernel⟩

/-- A body mismatch read before ARBITRATION_WON is payload loss (R9; log 39). -/
theorem test_payload_loss_before_the_spacer :
    ∃ t, exec (.payloadLoss false) (onLine (standing .active) .arbitrating .sender) = .next t ∧
      t.ctl.standing = .barred ∧ t.line.state = .receiving := ⟨_, rfl, by decide +kernel, by decide +kernel⟩

/-- A start mark in the slot voids an own TAKE that was interfered with (R9). -/
theorem test_start_mark_voids_the_own_take :
    ∃ t, exec (.startMarkRecognised false) { onLine (standing .active) .verdict .interfered with
        line := { (onLine (standing .active) .verdict .interfered).line with sent := some take9.composed } } = .next t ∧
      t.ctl.takeVoids = 1 ∧ t.line.state = .receiving := ⟨_, rfl, by decide +kernel, by decide +kernel⟩

/-! ## The hypotheses of the statements can be met -/

theorem witness_StepOfAnEmptyQueue :
    (running.pending = [] ∧ running.due = []) ∧ running.works ∧ ¬ (powered running .off).works ∧
      ({ running with ntc := ⟨[], false, false, .running 2000⟩ } : State).due = [.agedTimerExpiry] ∧
      ({ running with gate := { Gate.start with motorMinOff := .running 5000 } } : State).due =
        [.motorMinOffElapsed] := by decide

theorem witness_TimePasses :
    (powered running .off).sup.power = .off ∧ (powered running .standby).sup.power = .standby ∧ running.works ∧
      (3 : Station) ≠ running.station := by decide

theorem witness_TransmissionStart :
    let s := onLine (sending (standing .active) ⟨false, false, true, false, false⟩) .idle .none
    let at11 : State := { s with line := { s.line with recessive := 11 } }
    (at11.works ∧ at11.line.state = .idle ∧ 11 ≤ at11.line.recessive ∧ at11.line.courtesy = false ∧
      at11.offered = some .hold) ∧
      (sending at11 SendSet.empty).offered = none := by decide

theorem witness_EdgeOnIdleLine :
    let s := sending (standing .active) ⟨false, false, true, false, false⟩
    (s.works ∧ s.line.state = .idle ∧ 11 - max 10 s.line.recessive ≤ 1 ∧ s.offered = some .hold) ∧
      1 < 11 - max 9 s.line.recessive ∧ (sending s SendSet.empty).offered = none := by decide

theorem witness_OfferedKind :
    let isolated := sending (standing .isolated) ⟨false, false, true, false, false⟩
    (sending (standing .dark) ⟨true, true, false, false, false⟩).ctl.send.dark = true ∧
      ((sending running ⟨false, true, true, false, false⟩).ctl.send.dark = false ∧
        (sending running ⟨false, true, true, false, false⟩).ctl.send.drop = true) ∧
      (isolated.ctl.standing = .isolated ∧ isolated.gate.heat1.on = false ∧ isolated.gate.heat2.on = false) ∧
      (standing .active).ctl.standing ≠ .isolated ∧
      ({ isolated with gate := { isolated.gate with heat2 := ⟨true, 0, .reached, false⟩ } } : State).gate.heat2.on =
        true ∧
      (sending running ⟨false, false, false, true, true⟩).ctl.send = ⟨false, false, false, true, true⟩ ∧
      (sending running ⟨false, false, false, false, true⟩).ctl.send = ⟨false, false, false, false, true⟩ := by decide

theorem witness_ComposedFields :
    (holding (standing .active) 0 2 none none).ownHeld = 2 ∧
      (standing .active).ctl.standing = .active ∧ (standing .active).ctl.config = some config ∧
      (standing .isolated).ctl.standing = .isolated ∧ (standing .isolated).ctl.config = some config ∧
      ({ running with cyc := { Cycle.start with laneWant := some 2 } } : State).cyc.laneWant = some 2 ∧
      running.cyc.phase = .idle ∧ (phase .dry .none).cyc.phase = .dry ∧
      ((phase .spinup .dry).cyc.phase = .spinup ∧ (phase .spinup .dry).cyc.target = .dry) ∧
      ((phase .startWait .cool).cyc.phase = .startWait ∧ (phase .startWait .cool).cyc.target = .cool) ∧
      (phase .rest .none).cyc.phase = .rest ∧ (phase .halted .none).cyc.phase = .halted := by decide

/-- A settled part that offers TAKE, and one that offers LANE. -/
theorem witness_OfferedFramesAreWellFormed :
    let drying := (phase .dry .none).settle
    let waiting := ({ phase .startWait .dry with gate := { Gate.start with motorMinOff := .reached } } : State).settle
    (drying.Settled ∧ drying.ownHeld ≤ 2 ∧ drying.cyc.heatWant = 2 ∧ (∀ u ∈ drying.cyc.laneWant, u ≤ 2) ∧
      drying.offered = some .take) ∧
      (waiting.Settled ∧ waiting.ownHeld ≤ 2 ∧ waiting.cyc.heatWant ≤ 2 ∧ (∀ u ∈ waiting.cyc.laneWant, u ≤ 2) ∧
        waiting.offered = some .lane) := by decide

theorem witness_ReceiverReadsWhatWasSent :
    (Frame.mk 0 15 15 .dark).formOk = true ∧ (Frame.mk 0 15 0 (.drop 1 1)).formOk = true ∧
      (Frame.mk 0 15 0 (.hold 0 2 31 5)).formOk = true ∧ (Frame.mk 0 0 0 (.take 2 2)).formOk = true ∧
      (Frame.mk 2 0 0 (.lane 2)).formOk = true := by decide

theorem witness_Arbitration :
    (onLine running .arbitrating .sender).works ∧ (onLine running .arbitrating .sender).line.state = .arbitrating := by
  decide

theorem witness_SenderMismatch :
    (onLine running .sending .sender).works ∧ (onLine running .sending .sender).line.state = .sending ∧
      (onLine running .arbitrating .sender).line.state = .arbitrating := by decide

theorem witness_StartMark :
    running.works ∧ running.line.state = .idle ∧
      (onLine running .arbitrating .sender).line.state = .arbitrating ∧
      ((onLine running .receiving .receiver).line.state = .receiving ∧
        (onLine running .receiving .receiver).line.role ≠ .interfered) ∧
      (onLine running .receiving .interfered).line.role = .interfered ∧
      (onLine running .sending .sender).line.state = .sending ∧
      ((onLine running .verdict .sender).line.state = .verdict ∧
        (onLine running .verdict .sender).line.role = .sender) ∧
      (onLine running .verdict .payloadLost).line.role = .payloadLost ∧
      (onLine running .stuck .none).line.state = .stuck := by decide

theorem witness_InvalidKind :
    (onLine running .receiving .receiver).works ∧ (onLine running .receiving .receiver).line.state = .receiving ∧
      (onLine running .receiving .receiver).line.role = .receiver ∧ 5 ≤ (5 : BitVec 3).toNat := by decide

theorem witness_ClosingSpacer :
    (onLine running .sending .sender).works ∧ (onLine running .sending .sender).line.state = .sending ∧
      (onLine running .receiving .receiver).line.state = .receiving ∧
      (onLine running .receiving .receiver).line.role = .receiver ∧
      (onLine running .receiving .interfered).line.role = .interfered ∧
      ((List.replicate 37 true).length ∈ frameLengths ∧ readFrame (List.replicate 37 true) = none) ∧
      take9.composed.wireBits.length ∈ frameLengths ∧ readFrame take9.composed.wireBits = some (take9, false) ∧
      readFrame (SentFrame.wireBits ⟨take9, 0⟩) = some (take9, true) := by
  decide +kernel

theorem witness_OwnVerdict :
    let s := onLine running .verdict .sender
    let own : State := { s with line := { s.line with sent := some take9.composed } }
    own.works ∧ own.line.state = .verdict ∧ own.line.role = .sender ∧ own.line.sent = some take9.composed := by decide +kernel

theorem witness_ReceivedVerdict :
    let s := onLine running .verdict .receiver
    let clean : State := { s with line := { s.line with received := some ⟨take9, false, false⟩ } }
    let own : State := { s with line := { s.line with received := some ⟨⟨1, 12, 0, .take 1 1⟩, false, false⟩ } }
    let bad : State := { s with line := { s.line with received := some ⟨take9, true, true⟩ } }
    (clean.works ∧ clean.line.state = .verdict ∧ clean.line.role = .receiver ∧
      clean.line.received = some ⟨take9, false, false⟩ ∧ stationOfField take9.station ≠ clean.station) ∧
      own.station = stationOfField 0 ∧ bad.line.received = some ⟨take9, true, true⟩ := by decide

theorem witness_ObjectionScore :
    let high : State := { standing .active with line := { LineUnit.start with score := 88 } }
    let low : State := { standing .deaf with line := { LineUnit.start with score := 1 } }
    (high.ctl.standing = .active ∧ 96 ≤ high.line.score + 8) ∧ (low.ctl.standing = .deaf ∧ low.line.score ≤ 1) ∧
      (standing .barred).ctl.standing = .barred ∧
      ((standing .active).ctl.standing ≠ .deaf ∧ (standing .active).line.score + 8 < 96) ∧
      1 < ({ low.line with score := 2 } : LineUnit).score := by decide

theorem witness_LineLevels :
    let gap : State := { running with line := { LineUnit.start with courtesy := true, recessive := 19 } }
    running.works ∧ (running.line.state = .idle ∧ running.line.recessive ≤ 11 ∧ running.line.state ≠ .stuck) ∧
      (gap.line.state = .idle ∧ gap.line.courtesy = true ∧ gap.line.recessive ≤ 19) ∧
      (onLine running .stuck .none).line.state = .stuck ∧
      (standing .active).ctl.standing = .active ∧ (standing .barred).ctl.standing = .barred := by decide

theorem witness_AppliedEntry :
    (3 : Station) ≠ stationOfField 4 ∧ (1 : BitVec 2).toNat < 2 ∧ (5 : BitVec 3).toNat < 6 := by decide

theorem witness_BudgetMismatch :
    let p := (standing .active).toPart
    let told := ({ standing .active with
      roster := Roster.start.withEntry 8 { Entry.start with mismatch := true } } : State).toPart
    p.ctl.config = some config ∧ running.ctl.config = none ∧ (3 : Station) ≠ stationOfField 8 ∧
      (stationOfField 8 ≠ p.station ∧ (4 : BitVec 5).toNat + 1 ≠ config.budget ∧
        (p.roster.entry (stationOfField 8)).mismatch = false) ∧
      stationOfField 0 = p.station ∧ (5 : BitVec 5).toNat + 1 = config.budget ∧
      (told.roster.entry (stationOfField 8)).mismatch = true := by decide

theorem witness_ShedOrder :
    let r := (holding (holding running 3 2 (some .dry) none) 5 2 none none).roster
    0 < r.heldTotal ∧ r.marked r.heldTotal = [5, 3] ∧ r.marked 1 = [5] := by decide

theorem witness_ExcessCheck :
    let p := (holding (holding (standing .active) 0 2 none none) 4 2 none (some 3)).toPart
    (p.roster.effectiveBudget (p.ctl.config.map (·.budget)) = some 3 ∧ 3 < p.roster.heldTotal ∧
      p.station ∉ p.roster.marked (p.roster.heldTotal - 3)) ∧
      let q := (holding (holding (standing .active) 0 2 none none) 4 2 (some .dry) (some 3)).toPart
      (q.roster.effectiveBudget (q.ctl.config.map (·.budget)) = some 3 ∧ 3 < q.roster.heldTotal ∧
        q.station ∈ q.roster.marked (q.roster.heldTotal - 3) ∧ q.ctl.standing = .active ∧ q.ctl.shed = false) ∧
      (standing .barred).ctl.standing ≠ .active ∧
      ((standing .active).roster.effectiveBudget ((standing .active).ctl.config.map (·.budget)) = some 6 ∧
        (standing .active).roster.heldTotal ≤ 6) ∧
      running.roster.effectiveBudget (running.ctl.config.map (·.budget)) = none := by decide

theorem witness_StandingChange :
    (standing .barred).ctl.standing = .barred ∧ (standing .active).ctl.standing ≠ .barred ∧
      (standing .active).ctl.standing ≠ .dark := by decide

theorem witness_GroupTimers :
    let s := holding (standing .active) 7 1 none none
    let laned : State := { s with roster := { s.roster with lane := some ⟨2, 0⟩ } }
    let taken : State := { s with roster := { s.roster with lane := some ⟨2, 1⟩ } }
    let listening : State := { standing .listening with
      ctl := { (standing .listening).ctl with listen := .running 4000 } }
    let timed : State := { s with ctl := { s.ctl with unheard := .running 4000, census := .running 2000 } }
    let heard : State := { s with ctl := { s.ctl with unheard := .running 3999 } }
    s.works ∧ laned.roster.lane = some ⟨2, 0⟩ ∧ taken.roster.lane = some ⟨2, 1⟩ ∧
      ((running.roster.withEntry 7 { Entry.start with sinceHeard := 5999 }).entry 7).sinceHeard < 6000 ∧
      (7 ≠ s.station ∧ (s.roster.entry 7).presence = .present ∧ 6000 ≤ (s.roster.entry 7).sinceHeard) ∧
      (listening.ctl.standing = .listening ∧ listening.ctl.listen = .running 4000) ∧
      (timed.ctl.standing = .active ∧ timed.ctl.unheard = .running 4000 ∧ timed.ctl.census = .running 2000) ∧
      heard.ctl.unheard = .running 3999 := by decide

theorem witness_OwnOutcome :
    take9.kind = .take ∧ (Frame.mk 0 15 0 (.hold 0 0 5 0)).kind = .hold ∧ (Frame.mk 0 15 0 .dark).kind = .dark ∧
      (Frame.mk 0 15 0 (.drop 1 0)).kind = .drop ∧ (standing .active).ctl.standing = .active ∧
      (standing .isolated).ctl.standing = .isolated ∧ (Frame.mk 1 15 0 (.lane 1)).kind = .lane := by decide

theorem witness_LaneGrant :
    ((phase .startWait .dry).sup.power = .run ∧ (phase .startWait .dry).cyc.phase = .startWait) ∧
      (phase .burstWait .none).cyc.phase = .burstWait ∧
      ((phase .dry .none).cyc.phase ≠ .startWait ∧ (phase .dry .none).cyc.phase ≠ .burstWait) ∧
      (Frame.mk 1 15 0 (.lane 1)).kind = .lane ∧ (standing .barred).ctl.standing ≠ .active ∧
      (phase .dry .none).ctl.standing = .active := by decide

theorem witness_Settled :
    State.reset.Settled ∧ running.Settled ∧ running.cyc.heatWant ≤ running.ownHeld ∧ running.cyc.laneWant = none ∧
      running.cyc.motorWanted = false ∧ ¬ (running.inp.level.exhaustHot = true ∧ running.cyc.phase = .dry) ∧
      (heating.settle.Settled ∧ heating.settle.sup.power = .run ∧ 1 ≤ heating.settle.ownHeld) := by decide

theorem witness_NoticeArrivalAndTake :
    let n : Notice := ⟨.lost, 3, .idle, none⟩
    let seven : NoticeQueue := ⟨List.replicate 7 n, false, true, .running 5⟩
    let eight : NoticeQueue := ⟨List.replicate 8 n, false, true, .running 5⟩
    seven.queue.length < 8 ∧ 8 ≤ eight.queue.length ∧ running.works ∧ running.port.state ≠ .executing ∧
      running.ntc.queue = [] ∧ ({ running with ntc := ⟨[n], false, true, .running 5⟩ } : State).ntc.queue = [n] ∧
      ({ running with ntc := eight } : State).ntc.queue = n :: n :: List.replicate 6 n := by decide

theorem witness_Configure :
    let early : State := { running with res := Resume.start .power }
    running.works ∧ running.port.state ≠ .executing ∧ (standing .active).ctl.standing ≠ .unconfigured ∧
      (early.ctl.standing = .unconfigured ∧ early.res.decided = false) ∧
      (running.ctl.standing = .unconfigured ∧ running.res.decided = true) ∧
      (1 ≤ (32 : Byte).toNat ∧ (32 : Byte).toNat ≤ 32 ∧ 2 ≤ (10 : Byte).toNat ∧ (10 : Byte).toNat ≤ 10 ∧
        (15 : Byte).toNat ≤ 15 ∧ 1 ≤ (8 : Byte).toNat ∧ (8 : Byte).toNat ≤ 8 ∧ (8 : Byte).toNat = 8) ∧
      ¬ (33 : Byte).toNat ≤ 32 := by decide

theorem witness_Begin :
    let s := standing .active
    s.works ∧ s.port.state ≠ .executing ∧
      (s.sup.power = .run ∧ s.ctl.standing ≠ .unconfigured ∧ s.cyc.phase = .idle ∧ s.inp.level.door = false ∧
        s.inp.level.highLimit = false) ∧
      running.ctl.standing = .unconfigured ∧
      (Program.mk (240 : Byte).toNat (2 : Byte).toNat (30 : Byte).toNat (720 : BitVec 16).toNat (60 : Byte).toNat
        (30 : Byte).toNat).inRange ∧
      ¬ (Program.mk (0 : Byte).toNat 1 0 0 5 1).inRange := by decide

theorem witness_TrimAndCancel :
    (phase .dry .none).works ∧ (phase .dry .none).port.state ≠ .executing ∧ (phase .dry .none).sup.power = .run ∧
      (phase .dry .none).cyc.phase = .dry ∧ 240 < (241 : Byte).toNat ∧ (240 : Byte).toNat ≤ 240 ∧
      (0 : Byte).toNat = 0 ∧ running.cyc.phase = .idle ∧ (phase .halted .none).cyc.phase ≠ .idle := by decide

theorem witness_ClearAndStationReset :
    let s := standing .active
    let busy : State := { s with jrn := { s.jrn with operation := some (.erase .b) } }
    s.works ∧ s.port.state ≠ .executing ∧
      (s.sup.power = .run ∧ s.res.decided = true ∧ s.ctl.standing ≠ .barred ∧ s.ctl.standing ≠ .dark ∧
        s.cyc.phase = .idle ∧ s.jrn.operation = none ∧ s.jrn.pendingWrite = false ∧ s.jrn.quiet) ∧
      ¬ busy.jrn.quiet ∧ (phase .dry .none).cyc.phase ≠ .idle := by decide

theorem witness_Reads :
    let found := recorded running (record .dry .none 0)
    running.works ∧ running.port.state ≠ .executing ∧ State.reset.jrn.startRead = true ∧
      running.jrn.startRead = false ∧ running.jrn.newest = none ∧
      (found.jrn.newest = some .a ∧ found.jrn.slot .a = .record (record .dry .none 0)) := by decide

/-- READY: high in REPLY_READY alone, undriven in OFF and STANDBY (R163). -/
theorem test_ready :
    running.ready = some false ∧ ({ running with port := ⟨.replyReady, none, [0], []⟩ } : State).ready = some true ∧
      ({ running with port := ⟨.replyReady, none, [0], []⟩ } : State).readyWithin 1 = some false ∧
      (powered running .off).ready = none ∧ (powered running .standby).ready = none := by decide

theorem witness_OtherExchanges :
    let busy : State := { running with port := ⟨.executing, some .clear, [], []⟩ }
    let ready : State := { running with port := ⟨.replyReady, none, [0], []⟩ }
    running.works ∧ (dataBytesOf 0x10 = none ∧ (0x10 : Byte) ≠ 0xFF ∧ running.port.state ≠ .executing) ∧
      (dataBytesOf 0x12 = some 7 ∧ (6 : Nat) < 7) ∧ busy.port.state = .executing ∧ ready.port.state = .replyReady ∧
      running.port.state = .idle ∧ (1 : Nat) ≤ 1 ∧ ([] : List Byte).length < 7 ∧
      ([true, false] : List Bool).length < 8 ∧ (7 : Nat) < 8 ∧ (0 : Nat) < [(4 : Byte)].length := by decide

theorem witness_DryingAndCooling :
    let s := phase .dry .none
    let turning : State := { s with
      gate := { s.gate with motor := true, watch := .running }
      ctl := { s.ctl with permit := 1 }
      cyc := { s.cyc with
        remainingDry := 2, heatWant := 2, credit := 1000, starvation := 1800000, checkpointTimer := .running 60000 } }
    let last : State := { turning with cyc := { turning.cyc with remainingDry := 1 } }
    (turning.sup.power = .run ∧ turning.cyc.phase = .dry ∧ turning.gate.motor = true ∧
      turning.gate.watch = .running ∧ 1 ≤ turning.ctl.permit ∧ 1000 ≤ turning.cyc.credit ∧
      2 ≤ turning.cyc.remainingDry) ∧
      last.cyc.remainingDry = 1 ∧ s.gate.motor = false ∧
      ((phase .cool .none).cyc.cool.seconds = 0 ∧ 1800000 ≤ turning.cyc.starvation) ∧ 0 < (Program.shown s.cyc.program).coolTime ∧
      ((phase .cool .none).cyc.phase = .cool ∧ 0 < (Program.shown (phase .cool .none).cyc.program).window) ∧
      ({ (phase .cool .none).cyc with program := some { program with window := 0 } } : Cycle).program.isSome = true ∧
      (Program.shown (some { program with window := 0 })).window = 0 ∧
      (Program.shown (some { program with coolTime := 0 })).coolTime = 0 ∧
      (0 < turning.cyc.heatWant ∧ turning.ownHeld = 0 ∧ turning.cyc.starvationReported = false) ∧
      turning.cyc.checkpointTimer = .running 60000 := by decide

theorem witness_Tumbling :
    let rest : State := { phase .rest .none with
      cyc := { (phase .rest .none).cyc with window := ⟨1, 1000⟩, rest := ⟨1, 1000⟩ } }
    let burst : State := { phase .burst .none with cyc := { (phase .burst .none).cyc with window := ⟨1, 0⟩ } }
    rest.sup.power = .run ∧ (rest.cyc.phase = .rest ∧ 0 < rest.cyc.window.seconds) ∧
      (burst.cyc.phase = .burst ∧ 0 < burst.cyc.window.seconds) ∧
      ((phase .burst .none).cyc.phase = .burst ∧ (phase .burst .none).cyc.window.seconds = 0 ∧
        (phase .burst .none).cyc.burst.seconds = 0) ∧
      ((rest.cyc.rest.seconds = 1 ∧ 1000 ≤ rest.cyc.rest.part) ∧
        (rest.cyc.window.seconds = 1 ∧ 1000 ≤ rest.cyc.window.part)) ∧
      (phase .burstWait .none).cyc.phase = .burstWait := by decide

theorem witness_DoorAndHighLimit :
    running.cyc.phase = .idle ∧ (phase .dry .none).cyc.phase = .dry ∧
      ((phase .startWait .dry).cyc.phase = .startWait ∧ (phase .startWait .dry).cyc.target = .dry) ∧
      ((phase .spinup .cool).cyc.phase = .spinup ∧ (phase .spinup .cool).cyc.target = .cool) ∧
      (phase .cool .none).cyc.phase = .cool ∧ (phase .rest .none).cyc.phase = .rest ∧
      (phase .halted .none).cyc.phase = .halted := by decide

theorem witness_OutputsFollowTheirConditions :
    let p := heating.settle
    p.gate.motorDrive = true ∧ p.gate.heat1.drive = true ∧ p.gate.heat2.drive = true := by decide

theorem witness_InputChange :
    let s := running
    s.works ∧ s.inp.level.get .door = false ∧ s.inp.level.get .door ≠ true ∧ s.inp.level.get .mains ≠ false ∧
      s.sup.power = .run ∧ (powered s .ride).sup.power = .ride ∧
      (({ s with sup := { Supply.cold with warm := true } } : State).sup.warm = true ∧
        ({ s with sup := { Supply.cold with warm := true } } : State).sup.power = .settle) ∧
      ((powered s .qualify).sup.power = .qualify ∧ (powered s .qualify).sup.warm = false) ∧
      (powered s .settle).sup.power ≠ .run ∧
      ({ s with inp := ⟨⟨true, true, true, false⟩, ⟨true, true, true, false⟩⟩ } : State).inp.level.get .exhaustHot ≠
        false ∧
      (({ s.sup with absence := .running 40 } : Supply).absence = .running 40 ∧ 40 ≤ 40) ∧
      (⟨true, 10000, .reached, true⟩ : StageGate).turnOffPending = true := by decide

/-- MAINS in RUN below the 40 ms, at its boundary and with the timer stopped. -/
theorem witness_InputChange_absence :
    (∀ n, ({ running.sup with absence := .running 39 } : Supply).absence = .running n → n < 40) ∧
      ∀ n, running.sup.absence = .running n → n < 40 :=
  ⟨fun n h => by injection h with h; omega, nofun⟩

theorem witness_GateTimers :
    let hot : State := { holding (phase .dry .none) 0 1 none none with
      inp := ⟨⟨false, true, false, true⟩, ⟨false, true, false, true⟩⟩
      gate := { Gate.start with
        heat1 := ⟨false, 0, .running 10000, false⟩
        heat2 := ⟨false, 0, .running 10000, false⟩
        motorMinOff := .running 5000
        grace := 30000 } }
    let waiting : StageGate := ⟨true, 10000, .reached, true⟩
    let on : State := { hot with gate := { hot.gate with heat1 := waiting, heat2 := waiting } }
    (hot.works ∧ hot.gate.heat1.minOff = .running 10000 ∧ hot.gate.heat2.minOff = .running 10000 ∧
      hot.gate.motorMinOff = .running 5000 ∧ 30000 ≤ hot.gate.grace ∧ 10000 ≤ on.gate.heat1.minOn ∧
      10000 ≤ on.gate.heat2.minOn) ∧
      (on.gate.heat1.on = true ∧ on.gate.heat1.turnOffPending = true ∧ on.gate.heat2.on = true ∧
        on.gate.heat2.turnOffPending = true) ∧
      (hot.inp.level.exhaustHot = true ∧ hot.cyc.phase = .dry ∧ 1 ≤ hot.ownHeld ∧ hot.gate.report = false) := by decide

theorem witness_Rotation :
    let watched := fun (s : State) (w : Watch) =>
      ({ s with gate := { s.gate with watch := w, rotation := .running 3000 } } : State)
    running.works ∧ running.gate.watch = .none ∧
      ((watched (phase .spinup .dry) .confirming).gate.watch = .confirming ∧
        (phase .spinup .dry).sup.power = .run ∧ (phase .spinup .dry).cyc.target = .dry) ∧
      (phase .spinup .cool).cyc.target = .cool ∧
      ((watched (phase .burst .none) .running).gate.watch = .running ∧ (phase .burst .none).cyc.phase = .burst ∧
        (watched (phase .burst .none) .running).gate.rotation = .running 3000) ∧ granted.gate.rotation = .running 0 ∧
      (running.cyc.phase ≠ .spinup ∧ running.cyc.phase ≠ .burst ∧ running.cyc.phase ≠ .dry ∧
        running.cyc.phase ≠ .cool) := by decide

theorem witness_PowerSequence :
    let dropped : State := { running with
      sup := { Supply.cold with power := .qualify, absence := .running 40 }
      pins := { Pins.reset with level := ⟨false, false, false, false⟩ } }
    let settled : Supply := { Supply.cold with settle := .running 500 }
    let early : Supply := { Supply.cold with warm := true, settle := .running 64 }
    let ended : State := { dropped with sup := { dropped.sup with qualification := .running 2000 } }
    (settled.power = .settle ∧ settled.settle = .running 500 ∧ settled.warm = false) ∧
      (early.warm = true ∧ early.settle = .running 64) ∧
      (ended.sup.power = .qualify ∧ ended.sup.qualification = .running 2000) ∧
      ({ dropped.pins with backupLow := true } : Pins).backupLow = true ∧
      (dropped.sup.power = .qualify ∧ dropped.sup.absence = .running 40 ∧ dropped.pins.backupLow = false ∧
        dropped.pins.level.mains = false) ∧
      (powered running .off).sup.power = .off ∧ (powered running .standby).sup.power = .standby ∧
      (powered running .ride).sup.power = .ride ∧
      (({ running with sup := { Supply.cold with warm := true } } : State).sup.warm = true) ∧
      (running.sup.power ≠ .ride ∧ running.sup.power ≠ .standby ∧ running.jrn.operation = none) ∧
      ({ running with jrn := { running.jrn with operation := some (.erase .a) } } : State).jrn.operation =
        some (.erase .a) ∧
      ({ running with jrn := { running.jrn with operation := some (.write .b (record .dry .none 0)) } } :
        State).jrn.operation = some (.write .b (record .dry .none 0)) := by decide

theorem witness_OffAndStandbyTakeNothingElse :
    (powered running .off).sup.power = .off ∧ (powered running .standby).sup.power = .standby ∧
      (∀ x b, Instr.takeNotice ≠ .inputChange x b) ∧ Instr.takeNotice ≠ .doorLatchSet ∧
      (∀ b, Instr.takeNotice ≠ .backupCollapse b) ∧ (∀ k, Instr.takeNotice ≠ .powerApplied k) ∧
      (∀ k, Instr.takeNotice ≠ .standbyMainsReturn k) :=
  ⟨rfl, rfl, nofun, nofun, nofun, nofun, nofun⟩

theorem witness_DeclarationAndRide :
    let absent : State := { standing .active with sup := { Supply.cold with power := .run, absence := .running 40 } }
    let low : State := { absent with pins := { absent.pins with backupLow := true } }
    let ride : State := { absent with
      sup := { Supply.cold with power := .ride, ride := .running 200, darkSent := true }
      pins := { absent.pins with level := ⟨false, false, false, false⟩ } }
    (absent.sup.power = .run ∧ absent.sup.absence = .running 40 ∧ absent.pins.backupLow = false) ∧
      low.pins.backupLow = true ∧
      (ride.sup.power = .ride ∧ ride.sup.ride = .running 200 ∧ ride.sup.finalWanted = false ∧
        ride.sup.darkSent = true ∧ ride.line.role = .none ∧ ride.pins.backupLow = false ∧
        ride.pins.level.mains = false) ∧
      ((onLine ride .arbitrating .sender).line.role = .sender ∧
        (onLine ride .arbitrating .sender).line.state = .arbitrating) ∧
      ((onLine ride .receiving .interfered).line.role = .interfered ∧
        (onLine ride .receiving .interfered).line.state ≠ .verdict ∧
        ({ ride.sup with rideHeld := true } : Supply).rideHeld = true) ∧
      ({ ride.pins with level := ⟨false, false, false, true⟩ } : Pins).level.mains = true ∧
      ({ ride.sup with finalWanted := true } : Supply).finalWanted = true := by decide

theorem witness_ResumeDecision :
    let qualifying : State := { State.reset with
      sup := { Supply.cold with power := .qualify, qualification := .running 2000 } }
    let reset : State := { running with jrn := Journal.start .erased .erased, res := Resume.start .stationReset }
    let found := recorded running (record .dry .none 0)
    (qualifying.sup.power = .qualify ∧ qualifying.sup.qualification = .running 2000) ∧
      (State.reset.works ∧ State.reset.jrn.startRead = true ∧ State.reset.res.path ≠ .stationReset) ∧
      (reset.works ∧ reset.jrn.startRead = true ∧ reset.res.path = .stationReset ∧ reset.sup.power = .run) ∧
      running.jrn.newestRecord = none ∧
      (found.jrn.newestRecord = some (record .dry .none 0) ∧ found.ctl.standing = .unconfigured ∧
        found.jrn.operation = none) := by decide

/-- One record for each clause, at the limits of the classes and counts. -/
theorem witness_Placements :
    classOf (some 600) = .short ∧ classOf (some 601) = .medium ∧ classOf (some 5400) = .medium ∧
      classOf (some 5401) = .long ∧
      (record .idle .none 0).phase = .idle ∧ (record .spinup .dry 2).phase = .spinup ∧
      (record .spinup .dry 2).target = .dry ∧ (record .startWait .cool 1).target = .cool ∧
      (record .startWait .cool 1).phase = .startWait ∧ (record .burst .none 0).phase = .burst ∧
      (record .halted .none 0).phase = .halted ∧ config.limit = 2 ∧
      (700 - (some 700).getD 0 = 0 ∧ 0 < 700 - (some 699).getD 0) := by decide

theorem witness_CheckpointRequest :
    let s := standing .active
    running.ctl.config = none ∧ (s.ctl.config = some config ∧ s.jrn.operation = none) ∧
      ({ s with jrn := { s.jrn with operation := some (.erase .a) } } : State).jrn.operation ≠ none ∧
      (s.composeRecord config).station = s.station :=
  ⟨by decide, by decide, by decide, rfl⟩

theorem witness_CheckpointRequest_record :
    ((standing .active).composeRecord config).check =
      Config.checkpointCheck ((standing .active).composeRecord config).bytes := rfl

theorem witness_JournalCompletions :
    let r := record .dry .none 0
    let s := standing .active
    let writing : State := { s with jrn := { s.jrn with operation := some (.write .b r) } }
    let erasing : State := { s with
      jrn := { s.jrn with operation := some (.erase .b) }
      port := ⟨.executing, some .clear, [], []⟩
      ntc := ⟨[⟨.lost, 3, .idle, none⟩], false, false, .running 2000⟩ }
    State.reset.jrn.startRead = true ∧ ({ erasing.ntc with aged := .running 1999 } : NoticeQueue).aged = .running 1999 ∧
    (writing.works ∧ writing.jrn.operation = some (.write .b r) ∧ writing.port.held ≠ some .stationReset ∧
      writing.sup.power = .run ∧ r.inRange ∧ r.station = writing.station ∧ writing.jrn.pendingWrite = false ∧
      writing.jrn.retry = false ∧ writing.ctl.config = some config) ∧
      ({ writing.jrn with pendingWrite := true } : Journal).pendingWrite = true ∧
      ({ writing.jrn with retry := true } : Journal).retry = true ∧
      (erasing.jrn.operation = some (.erase .b) ∧ erasing.port.held = some .clear ∧
        erasing.ntc.aged = .running 2000) ∧
      ({ erasing.jrn with operation := some (.erase .a) } : Journal).operation = some (.erase .a) := by decide

/-- A record whose check agrees with its fields. -/
theorem witness_JournalCompletions_check :
    ({ record .dry .none 0 with check := Config.checkpointCheck (record .dry .none 0).bytes } : Record).checkAgrees := rfl

theorem witness_EveryStepKeepsQueueAndCounters : State.reset.ntc.Ok ∧ State.reset.CountersOk := by decide

theorem witness_EveryStepKeepsTheClaims : State.reset.ClaimsOk :=
  ⟨by decide, ⟨trivial, trivial, by decide⟩, by decide, ⟨nofun, by decide, nofun⟩, ⟨nofun, nofun⟩⟩

theorem witness_a_step_of_reset : ∃ t, step State.reset = .next t := ⟨_, rfl⟩

end Sys2Proof.Tests
end

namespace Sys2Proof.Machine

/-! ### One command, as what it does to the part -/

/-- What a command makes of the part; the queue is left alone (`exec_eq_runs`). -/
def effectOf : Instr → Part → Part
  | .transmissionStart => onTransmissionStart
  | .startMarkRecognised inSlot => onStartMarkRecognised inSlot
  | .arbitrationLost => onArbitrationLost
  | .payloadLoss startMark => onPayloadLoss startMark
  | .interference startMark => onInterference startMark
  | .invalidKindAbandon kind => onInvalidKindAbandon kind
  | .closingSpacerEnd bits => onClosingSpacerEnd bits
  | .verdictSlotEnd first second => onVerdictSlotEnd first second
  | .lineIdle => onLineIdle
  | .courtesyGapEnd => onCourtesyGapEnd
  | .lineStuck => onLineStuck
  | .stuckCleared => onStuckCleared
  | .laneSpacingExpiry => onLaneSpacingExpiry
  | .entryAgedLost station => onEntryAgedLost station
  | .listenTimerExpiry => onListenTimerExpiry
  | .censusTimerExpiry => onCensusTimerExpiry
  | .standingTimerExpiry => onStandingTimerExpiry
  | .configure budget spacing reheat limit trigger => onConfigure budget spacing reheat limit trigger
  | .beginCycle dryTime stages coolTime window burst rest => onBeginCycle dryTime stages coolTime window burst rest
  | .trim minutes => onTrim minutes
  | .cancel => onCancel
  | .clear => onClear
  | .stationReset straps => onStationReset straps
  | .readStanding => onReadStanding
  | .readRoster => onReadRoster
  | .readCheckpoint => onReadCheckpoint
  | .takeNotice => onTakeNotice
  | .unknownCommand command => onUnknownCommand command
  | .incompleteRequest command counted => onIncompleteRequest command counted
  | .requestWhileBusy bytes => onRequestWhileBusy bytes
  | .replyFetch bytes => onReplyFetch bytes
  | .creditSecond => onCreditSecond
  | .endOfCooling => onEndOfCooling
  | .heatStarved => onHeatStarved
  | .checkpointTimerExpiry => onCheckpointTimerExpiry
  | .restExpiry => onRestExpiry
  | .burstEnd => onBurstEnd
  | .windowExpiry => onWindowExpiry
  | .inputChange input active => onInputChange input active
  | .heatMinOffElapsed stage => onHeatMinOffElapsed stage
  | .heatMinOnReached stage => onHeatMinOnReached stage
  | .thermostatGraceExpiry => onThermostatGraceExpiry
  | .motorMinOffElapsed => onMotorMinOffElapsed
  | .tachPulse => onTachPulse
  | .noRotation => onNoRotation
  | .rotationLost => onRotationLost
  | .mainsDeclaredAbsent => onMainsDeclaredAbsent
  | .qualifyDrop => onQualifyDrop
  | .settleExpiry => onSettleExpiry
  | .endOfQualification => onEndOfQualification
  | .rideTimerExpiry => onRideTimerExpiry
  | .backupCollapse low => onBackupCollapse low
  | .powerApplied straps => onPowerApplied straps
  | .standbyMainsReturn straps => onStandbyMainsReturn straps
  | .doorLatchSet => onDoorLatchSet
  | .startReadComplete => onStartReadComplete
  | .writeCompletion good => onWriteCompletion good
  | .eraseCompletion => onEraseCompletion
  | .agedTimerExpiry => onAgedTimerExpiry
  | .lineGoesDominant recessive => onLineGoesDominant recessive
  | .arbitrationWon => onArbitrationWon

theorem exec_eq_runs (i : Instr) (s : State) : exec i s = s.runs (effectOf i) := by cases i <;> rfl

theorem exec_eq_next (i : Instr) (s : State) : exec i s = .next { s with toPart := effectOf i s.toPart } :=
  exec_eq_runs i s

/-! ### One step -/

/-- A step takes the front command, or with none waiting queues a due event or lets a millisecond pass. -/
theorem step_cases {s t : State} (h : step s = .next t) :
    (∃ c rest, s.pending = c :: rest ∧ t = { s with toPart := effectOf c s.toPart, pending := rest }) ∨
      (s.pending = [] ∧ s.due = [] ∧ t = { s with toPart := s.tick }) ∨
      (s.pending = [] ∧ ∃ i ∈ s.due, t = { s with pending := [i], freeCount := s.freeCount + 1 }) := by
  unfold step at h
  split at h
  · next hp =>
    obtain rfl : s.idle = t := Host.Outcome.next.inj h
    right
    unfold State.idle
    split
    · next hd => exact .inl ⟨hp, hd, rfl⟩
    · next i hd => exact .inr ⟨hp, i, by simp [hd], rfl⟩
    · next i j rest hd =>
      refine .inr ⟨hp, _, ?_, rfl⟩
      have hlt : Config.freeChoice s.freeCount % (rest.length + 2) < (i :: j :: rest).length :=
        Nat.mod_lt _ (by omega)
      rw [hd, List.getD_eq_getElem _ _ hlt]
      exact List.getElem_mem hlt
  · next c rest hp =>
    rw [exec_eq_next] at h
    exact .inl ⟨c, rest, hp, (Host.Outcome.next.inj h).symm⟩

/-- What every command and every millisecond keeps, whatever free values have been used, every step keeps. -/
theorem step_keeps {P : Part → Prop} (hcommand : ∀ i p, P p → P (effectOf i p)) (htick : ∀ p : Part, P p → P p.tick)
    (hfree : ∀ (p : Part) (n : Nat), P p → P { p with freeCount := n }) {s t : State} (hs : P s.toPart)
    (h : step s = .next t) : P t.toPart := by
  obtain ⟨c, rest, -, rfl⟩ | ⟨-, -, rfl⟩ | ⟨-, i, -, rfl⟩ := step_cases h
  · exact hcommand c _ hs
  · exact htick _ hs
  · exact hfree _ _ hs

end Sys2Proof.Machine

namespace Sys2Proof.Machine

/-! ### Every command and every millisecond leave a settled part settled -/

theorem Part.Settled.ite {q r : Part} {c : Prop} [Decidable c] (ht : c → q.Settled) (hf : ¬ c → r.Settled) :
    (if c then q else r).Settled := by
  split
  · next h => exact ht h
  · next h => exact hf h

/-- A guarded event that ends by settling. -/
theorem Part.Settled.guarded {p q : Part} (h : p.Settled) {c : Prop} [Decidable c] :
    (if c then q.settle else p).Settled := by
  split
  · exact q.settle_settled
  · exact h

theorem Part.Settled.setLine {p : Part} (h : p.Settled) (l : LineUnit) : Part.Settled { p with line := l } :=
  h.congr rfl rfl rfl rfl rfl rfl rfl

theorem Part.Settled.setPort {p : Part} (h : p.Settled) (x : Port) : Part.Settled { p with port := x } :=
  h.congr rfl rfl rfl rfl rfl rfl rfl

theorem Part.Settled.setJrn {p : Part} (h : p.Settled) (x : Journal) : Part.Settled { p with jrn := x } :=
  h.congr rfl rfl rfl rfl rfl rfl rfl

theorem Part.Settled.setPins {p : Part} (h : p.Settled) (x : Pins) : Part.Settled { p with pins := x } :=
  h.congr rfl rfl rfl rfl rfl rfl rfl

theorem Part.Settled.setNtc {p : Part} (h : p.Settled) (x : NoticeQueue) : Part.Settled { p with ntc := x } :=
  h.congr rfl rfl rfl rfl rfl rfl rfl

theorem Part.Settled.answer {p : Part} (h : p.Settled) (code : ResultCode) (data : List Byte) :
    (p.answer code data).Settled := h.setPort _

theorem Part.Settled.holdRequest {p : Part} (h : p.Settled) (r : HeldRequest) : (p.holdRequest r).Settled :=
  h.setPort _

theorem Part.Settled.latchDoor {p : Part} (h : p.Settled) : p.latchDoor.Settled := h.congr rfl rfl rfl rfl rfl rfl rfl

theorem Part.Settled.notifyOwn {p : Part} (h : p.Settled) (k : NoticeKind) (v : Option Nat) :
    (p.notifyOwn k v).Settled := h.setNtc _

/-! #### The group line -/

theorem onStartMarkRecognised_settled (b : Bool) {p : Part} (h : p.Settled) :
    (onStartMarkRecognised b p).Settled := by
  unfold onStartMarkRecognised
  split
  · split
    · exact h.setLine _
    · exact h.setLine _
    · exact Part.afterLine_settled _
    · exact Part.afterLine_settled _
    · split
      · exact .ite (fun _ => (Part.afterLine_settled _).setLine _) fun _ => Part.afterLine_settled _
      · exact Part.afterLine_settled _
    · exact h
  · exact h

theorem onClosingSpacerEnd_settled (bits : List Bit) {p : Part} (h : p.Settled) :
    (onClosingSpacerEnd bits p).Settled := by
  unfold onClosingSpacerEnd
  split
  · split
    · exact h.setLine _
    · exact h.setLine _
    · split
      · exact h
      · exact h.setLine _
    · exact h
  · exact h

theorem onMismatch_settled {p q r : Part} (h : p.Settled) (hr : r.Settled) {c d : Prop} [Decidable c] [Decidable d] :
    (if c then if d then q.afterLine else r else p).Settled :=
  .ite (fun _ => .ite (fun _ => q.afterLine_settled) fun _ => hr) fun _ => h

/-! #### The appliance port -/

theorem Part.runConfigure_settled (c : Configuration) (q : Part) (h : q.Settled) : (q.runConfigure c).Settled :=
  .ite (fun _ => h.answer _ _) fun _ => .ite (fun _ => h.answer _ _) fun _ =>
    .ite (fun _ => h.answer _ _) fun _ => Part.settle_settled _

theorem Part.runBegin_settled (g : Program) (q : Part) (h : q.Settled) : (q.runBegin g).Settled :=
  .ite (fun _ => h.answer _ _) fun _ => .ite (fun _ => h.answer _ _) fun _ => Part.settle_settled _

theorem Part.runTrim_settled (m : Byte) (q : Part) (h : q.Settled) : (q.runTrim m).Settled :=
  .ite (fun _ => h.answer _ _) fun _ => .ite (fun _ => h.answer _ _) fun _ => Part.settle_settled _

theorem Part.runCancel_settled (q : Part) (h : q.Settled) : q.runCancel.Settled :=
  .ite (fun _ => Part.settle_settled _) fun _ => h.answer _ _

theorem Part.runClear_settled (q : Part) (h : q.Settled) : q.runClear.Settled :=
  .ite (fun _ => Part.settle_settled _) fun _ => h.answer _ _

theorem Part.runStationReset_settled (straps : BitVec 4) (q : Part) (h : q.Settled) :
    (Part.runStationReset { q with pins := { q.pins with straps := straps } }).Settled :=
  .ite (fun _ => (h.setPins _).answer _ _) fun _ =>
    .ite (fun _ => Part.executeStationReset_settled _) fun _ => (h.setPins _).holdRequest _

theorem Part.runReadStanding_settled (q : Part) (h : q.Settled) : q.runReadStanding.Settled :=
  h.congr rfl rfl rfl rfl rfl rfl rfl

theorem Part.runReadCheckpoint_settled (q : Part) (h : q.Settled) : q.runReadCheckpoint.Settled :=
  .ite (fun _ => h.holdRequest _) fun _ => h.answer _ _

theorem onReplyFetch_settled (n : Nat) {p : Part} (h : p.Settled) : (onReplyFetch n p).Settled := by
  unfold onReplyFetch
  split
  · split
    · exact .ite (fun _ => h.setPort _) fun _ => h.setPort _
    · exact h.setPort _
    · exact h.setPort _
    · exact h
  · exact h

/-! #### The cycle engine, the inputs and the gate -/

/-- What HEAT STARVED counts and reports is no input of the derived state: with nothing held, the starvation timer
is free (04, R80). -/
theorem onHeatStarved_settled {p : Part} (h : p.Settled) : (onHeatStarved p).Settled := by
  unfold onHeatStarved
  split
  · next c =>
    obtain ⟨-, -, -, hheld, -, -⟩ := c
    refine Part.Settled.notifyOwn ?_ _ _
    obtain ⟨h1, h2, h3, h4, h5, h6, -, h8, h9⟩ := Part.facts_of_settled h
    exact Part.settled_of_facts ⟨h1, h2, h3, h4, h5, h6,
      fun k => absurd (show 1 ≤ p.ownHeld from k.2) (by omega), h8, h9⟩
  · exact h

theorem onCheckpointTimerExpiry_settled {p : Part} (h : p.Settled) : (onCheckpointTimerExpiry p).Settled := by
  unfold onCheckpointTimerExpiry
  split
  · have k : Part.Settled { p with cyc := { p.cyc with checkpointTimer := .running 0 } } := by
      rw [Part.settled_iff_facts] at *
      exact h
    exact k.requestCheckpoint
  · exact h

theorem onWindowExpiry_settled {p : Part} (h : p.Settled) : (onWindowExpiry p).Settled := by
  have k : Part.Settled { p with cyc := { p.cyc with window := ⟨0, 0⟩ } } := by
    rw [Part.settled_iff_facts] at *
    exact h
  exact .ite (fun _ => Part.settle_settled _) fun _ => .ite (fun _ => k) fun _ => h

theorem onInputChange_settled (i : Input) (b : Bool) {p : Part} (h : p.Settled) : (onInputChange i b p).Settled := by
  unfold onInputChange Part.watchedInStandby
  dsimp only
  split
  · exact Part.settle_settled _
  · split
    · cases i with
      | door => exact (h.setPins _).latchDoor
      | exhaustHot => exact h.setPins _
      | highLimit => exact h.setPins _
      | mains => exact Part.leaveStandby_settled _
    · exact h.setPins _

theorem onDoorLatchSet_settled {p : Part} (h : p.Settled) : (onDoorLatchSet p).Settled :=
  .ite (fun _ => (h.setPins _).latchDoor) fun _ => .ite (fun _ => h.latchDoor) fun _ => h

theorem onTachPulse_settled {p : Part} (h : p.Settled) : (onTachPulse p).Settled := by
  unfold onTachPulse
  split
  · split
    · exact h
    · exact Part.settle_settled _
    · rw [Part.settled_iff_facts] at *
      exact h
  · exact h

/-! #### The supply and the journal -/

theorem Part.run_of_motorMayRun {p : Part} (h : p.motorMayRun) : p.sup.power = .run := by
  obtain ⟨-, -, hrun⟩ := h
  exact hrun

theorem Part.run_of_stageMayStay {p : Part} {n : Nat} (h : p.stageMayStay n) : p.sup.power = .run := by
  obtain ⟨-, -, -, -, hrun⟩ := h
  exact hrun

/-- Between two power states out of RUN no derived state changes: each of its rules acts in RUN alone or does not look
at the supply. -/
theorem Part.Settled.setSup {p : Part} (h : p.Settled) {u : Supply} (hp : p.sup.power ≠ .run) (hu : u.power ≠ .run) :
    Part.Settled { p with sup := u } := by
  obtain ⟨hthermostat, -, horder, ⟨hmotor, -⟩, hpermit, ⟨⟨hheat1, -⟩, hheat2, -⟩, -, hsend, hwait⟩ :=
    Part.facts_of_settled h
  have hmotor' : ¬ Part.motorMayRun { p with sup := u } := fun k => hu (Part.run_of_motorMayRun k)
  have hstage' (n : Nat) : ¬ Part.stageMayStay { p with sup := u } n := fun k => hu (Part.run_of_stageMayStay k)
  exact Part.settled_of_facts ⟨hthermostat, fun k => absurd k hu, horder,
    ⟨fun k => absurd (Part.run_of_motorMayRun (hmotor k)) hp, fun _ ⟨_, k, _⟩ => hmotor' k⟩, hpermit,
    ⟨⟨fun k => absurd (Part.run_of_stageMayStay (hheat1 k)) hp, fun _ ⟨k, _⟩ => hstage' 1 k⟩,
      ⟨fun k => absurd (Part.run_of_stageMayStay (hheat2 k)) hp, fun _ ⟨k, _⟩ => hstage' 2 k⟩⟩,
    fun ⟨k, _⟩ => absurd k hu, hsend, hwait⟩

theorem onMainsDeclaredAbsent_settled {p : Part} (h : p.Settled) : (onMainsDeclaredAbsent p).Settled :=
  .ite (fun _ => .ite (fun _ => Part.collapse_settled _) fun _ =>
    (Part.settle_settled _).rideCheck) fun _ => h

theorem onSettleExpiry_settled {p : Part} (h : p.Settled) : (onSettleExpiry p).Settled := by
  unfold onSettleExpiry
  split
  · next c => exact h.setSup (by simp [c.1]) (by simp)
  · exact h

theorem onEndOfQualification_settled {p : Part} (h : p.Settled) : (onEndOfQualification p).Settled :=
  .ite (fun _ => .ite (fun _ => Part.settle_settled _) fun _ => Part.settle_settled _) fun _ => h

theorem onRideTimerExpiry_settled {p : Part} (h : p.Settled) : (onRideTimerExpiry p).Settled :=
  .ite (fun _ => Part.Settled.rideCheck (h.congr rfl rfl rfl rfl rfl rfl rfl)) fun _ => h

theorem onBackupCollapse_settled (low : Bool) {p : Part} (h : p.Settled) : (onBackupCollapse low p).Settled :=
  .ite (fun _ => Part.collapse_settled _) fun _ => h.setPins _

theorem onPowerApplied_settled (straps : BitVec 4) {p : Part} (h : p.Settled) : (onPowerApplied straps p).Settled :=
  .ite (fun _ => Part.startPath_settled _ _ _) fun _ => h

theorem onStandbyMainsReturn_settled (straps : BitVec 4) {p : Part} (h : p.Settled) :
    (onStandbyMainsReturn straps p).Settled :=
  .ite (fun _ => Part.leaveStandby_settled _) fun _ => onPowerApplied_settled straps h

theorem Part.Settled.finishStartRead {p : Part} (h : p.Settled) : p.finishStartRead.Settled :=
  h.congr (by simp) (by simp) (by simp) (by simp) (by simp) (by simp) (by simp)

theorem onStartReadComplete_settled {p : Part} (h : p.Settled) : (onStartReadComplete p).Settled :=
  .ite (fun _ => .ite (fun _ => Part.settle_settled _) fun _ => h.finishStartRead) fun _ => h

theorem Part.Settled.readBack {p : Part} (h : p.Settled) (n : SlotName) (r : Record) (good : Bool) :
    (p.readBack n r good).Settled :=
  .ite (fun _ => h.setJrn _) fun _ => (h.setJrn _).notifyOwn _ _

theorem Part.Settled.nextWrite {p : Part} (h : p.Settled) : p.nextWrite.Settled := by
  unfold Part.nextWrite
  split
  · exact h.setJrn _
  · exact (h.setJrn _).onQuiet
  · exact (h.setJrn _).onQuiet

theorem onWriteCompletion_settled (good : Bool) {p : Part} (h : p.Settled) : (onWriteCompletion good p).Settled := by
  unfold onWriteCompletion
  split
  · split
    · exact (h.readBack _ _ _).nextWrite
    · exact h
    · exact h
  · exact h

theorem Part.Settled.answerHeldClear {p : Part} (h : p.Settled) : p.answerHeldClear.Settled :=
  .ite (fun _ => h.answer _ _) fun _ => h

theorem onEraseCompletion_settled {p : Part} (h : p.Settled) : (onEraseCompletion p).Settled := by
  unfold onEraseCompletion
  split
  · split
    · exact h.setJrn _
    · exact (h.setJrn _).answerHeldClear.onQuiet
    · exact h
    · exact h
  · exact h

/-- Whatever the command, the derived state is worked out after it. -/
theorem effectOf_settled (i : Instr) (p : Part) (h : p.Settled) : (effectOf i p).Settled := by
  cases i with
  | transmissionStart => exact .ite (fun _ => h.startFrame) fun _ => h
  | startMarkRecognised b => exact onStartMarkRecognised_settled b h
  | arbitrationLost => exact .ite (fun _ => (h.setLine _).rideCheck) fun _ => h
  | payloadLoss b => exact onMismatch_settled h (Part.afterLine_settled _)
  | interference b => exact onMismatch_settled h (h.setLine _).rideCheck
  | invalidKindAbandon k => exact h.guarded
  | closingSpacerEnd bits => exact onClosingSpacerEnd_settled bits h
  | verdictSlotEnd a b => exact .ite (fun _ => Part.afterLine_settled _) fun _ => h
  | lineIdle => exact .ite (fun _ => h.setLine _) fun _ => h
  | courtesyGapEnd => exact .ite (fun _ => h.setLine _) fun _ => h
  | lineStuck => exact .ite (fun _ => Part.afterLine_settled _) fun _ => h
  | stuckCleared => exact .ite (fun _ => h.setLine _) fun _ => h
  | laneSpacingExpiry => exact h.guarded
  | entryAgedLost j => exact h.guarded
  | listenTimerExpiry => exact h.guarded
  | censusTimerExpiry => exact h.guarded
  | standingTimerExpiry => exact h.guarded
  | configure b sp re li tr => exact h.request _ (Part.runConfigure_settled _)
  | beginCycle d st co w bu re => exact h.request _ (Part.runBegin_settled _)
  | trim m => exact h.request _ (Part.runTrim_settled m)
  | cancel => exact h.request _ Part.runCancel_settled
  | clear => exact h.request _ Part.runClear_settled
  | stationReset straps => exact h.request _ (Part.runStationReset_settled straps)
  | readStanding => exact h.request _ Part.runReadStanding_settled
  | readRoster => exact h.request _ fun _ k => k.answer _ _
  | readCheckpoint => exact h.request _ Part.runReadCheckpoint_settled
  | takeNotice => exact h.request _ fun _ k => (k.setNtc _).answer _ _
  | unknownCommand c => exact .ite (fun _ => h.exchange _ fun _ k => k.answer _ _) fun _ => h
  | incompleteRequest c n => exact .ite (fun _ => h.exchange _ fun _ k => k.setPort _) fun _ => h
  | requestWhileBusy n => exact .ite (fun _ => h.exchange _ fun _ k => k) fun _ => h
  | replyFetch n => exact onReplyFetch_settled n h
  | creditSecond => exact h.guarded
  | endOfCooling => exact h.guarded
  | heatStarved => exact onHeatStarved_settled h
  | checkpointTimerExpiry => exact onCheckpointTimerExpiry_settled h
  | restExpiry => exact h.guarded
  | burstEnd => exact h.guarded
  | windowExpiry => exact onWindowExpiry_settled h
  | inputChange i b => exact onInputChange_settled i b h
  | heatMinOffElapsed n => exact h.guarded
  | heatMinOnReached n => exact h.guarded
  | thermostatGraceExpiry => exact h.guarded
  | motorMinOffElapsed => exact h.guarded
  | tachPulse => exact onTachPulse_settled h
  | noRotation => exact h.guarded
  | rotationLost => exact h.guarded
  | mainsDeclaredAbsent => exact onMainsDeclaredAbsent_settled h
  | qualifyDrop => exact .ite (fun _ => Part.enterStandby_settled _ _) fun _ => h
  | settleExpiry => exact onSettleExpiry_settled h
  | endOfQualification => exact onEndOfQualification_settled h
  | rideTimerExpiry => exact onRideTimerExpiry_settled h
  | backupCollapse b => exact onBackupCollapse_settled b h
  | powerApplied straps => exact onPowerApplied_settled straps h
  | standbyMainsReturn straps => exact onStandbyMainsReturn_settled straps h
  | doorLatchSet => exact onDoorLatchSet_settled h
  | startReadComplete => exact onStartReadComplete_settled h
  | writeCompletion good => exact onWriteCompletion_settled good h
  | eraseCompletion => exact onEraseCompletion_settled h
  | agedTimerExpiry => exact .ite (fun _ => h.setNtc _) fun _ => h
  | lineGoesDominant n =>
    exact .ite (fun _ => .ite (fun _ => (h.setLine _).startFrame) fun _ => h.setLine _) fun _ => h
  | arbitrationWon => exact .ite (fun _ => h.setLine _) fun _ => h

/-! #### One millisecond -/

theorem Roster.entry_tick (r : Roster) (own i : Station) : (r.tick own).entry i =
    if i = own then r.entry i else { r.entry i with sinceHeard := min 255000 ((r.entry i).sinceHeard + 1) } :=
  Vector.get_ofFn ..

theorem Roster.entry_tick_held (r : Roster) (own i : Station) : ((r.tick own).entry i).held = (r.entry i).held := by
  rw [Roster.entry_tick]; split <;> rfl

theorem Roster.entry_tick_counted (r : Roster) (own i : Station) :
    ((r.tick own).entry i).counted = (r.entry i).counted := by
  rw [Roster.entry_tick]; split <;> rfl

theorem Roster.entry_tick_countedBudget (r : Roster) (own i : Station) :
    ((r.tick own).entry i).countedBudget = (r.entry i).countedBudget := by
  rw [Roster.entry_tick]; split <;> rfl

/-- Time changes no entry's claim, so the free stages stay. -/
theorem Roster.freeStages_tick (r : Roster) (own : Station) (b : Option Nat) :
    (r.tick own).freeStages b = r.freeStages b := by
  unfold Roster.freeStages Roster.effectiveBudget Roster.heldTotal
  simp only [Roster.entry_tick_counted, Roster.entry_tick_countedBudget]

theorem Roster.lane_tick_eq_none (r : Roster) (own : Station) : (r.tick own).lane = none ↔ r.lane = none :=
  Option.map_eq_none_iff

theorem Timer.tick_eq_reached {t : Timer} : t.tick = .reached ↔ t = .reached := by cases t <;> simp [Timer.tick]

/-- The cycle engine's counters count; what the derived state reads of it stays (04, R74). -/
theorem Part.tick_cyc_fields (p : Part) :
    p.tick.cyc.phase = p.cyc.phase ∧ p.tick.cyc.program = p.cyc.program ∧ p.tick.cyc.resumed = p.cyc.resumed ∧
      p.tick.cyc.heatBarred = p.cyc.heatBarred ∧ p.tick.cyc.heatWant = p.cyc.heatWant ∧
      p.tick.cyc.laneWant = p.cyc.laneWant ∧ p.tick.cyc.motorWanted = p.cyc.motorWanted := by
  unfold Part.tick
  split
  · dsimp only
    split <;> exact ⟨rfl, rfl, rfl, rfl, rfl, rfl, rfl⟩
  · split <;> exact ⟨rfl, rfl, rfl, rfl, rfl, rfl, rfl⟩

theorem Part.tick_starvation {p : Part} (h : 1 ≤ p.ownHeld) : p.tick.cyc.starvation = p.cyc.starvation := by
  have hn : ¬ p.ownHeld = 0 := by omega
  unfold Part.tick
  split
  · dsimp only
    split
    · exact if_neg fun k => hn k.2.2
    · rfl
  · split <;> rfl

theorem Supply.tickOutage_power (u : Supply) : u.tickOutage.power = u.power := by
  unfold Supply.tickOutage
  repeat' split
  all_goals rfl

theorem Part.tick_power (p : Part) : p.tick.sup.power = p.sup.power := by
  unfold Part.tick
  split
  · exact p.sup.tickOutage_power
  · split
    · exact p.sup.tickOutage_power
    · rfl

theorem Part.tick_roster {p : Part} (h : p.works) : p.tick.roster = p.roster.tick p.station := by
  rw [Part.tick, if_pos h]

theorem Part.tick_gate {p : Part} (h : p.works) : p.tick.gate = p.gate.tick (decide p.graceRuns) := by
  rw [Part.tick, if_pos h]

theorem Part.tick_ctl {p : Part} (h : p.works) : p.tick.ctl = p.ctl.tick := by rw [Part.tick, if_pos h]

theorem Part.tick_inp (p : Part) : p.tick.inp = p.inp := by
  unfold Part.tick
  split
  · rfl
  · split <;> rfl

theorem Part.tick_station (p : Part) : p.tick.station = p.station := by
  unfold Part.tick
  split
  · rfl
  · split <;> rfl

theorem Part.tick_ownHeld {p : Part} (h : p.works) : p.tick.ownHeld = p.ownHeld := by
  rw [Part.ownHeld, Part.own, Part.tick_roster h, Part.tick_station, Roster.entry_tick_held]; rfl

theorem Part.tick_freeStages {p : Part} (h : p.works) : p.tick.freeStages = p.freeStages := by
  rw [Part.freeStages, Part.tick_roster h, Roster.freeStages_tick, Part.ownBudget, Part.tick_ctl h]; rfl

/-- Time alone changes none of what the rules derive: timers only count, and none reaches its limit by itself. -/
theorem Part.Settled.tick {p : Part} (h : p.Settled) : p.tick.Settled := by
  by_cases hw : p.works
  · obtain ⟨hthermostat, hwants, horder, hmotor, hpermit, hheat, hstarvation, hsend, hwait⟩ := Part.facts_of_settled h
    obtain ⟨hphase, hprogram, hresumed, hbarred, hheatWant, hlaneWant, hmotorWanted⟩ := p.tick_cyc_fields
    have hheld := Part.tick_ownHeld hw
    have hgate := Part.tick_gate hw
    have hctl := Part.tick_ctl hw
    have hinp := p.tick_inp
    have hpower := p.tick_power
    refine Part.settled_of_facts ⟨?_, ?_, ?_, ?_, ?_, ?_, ?_, ?_, ?_⟩
    · rw [Part.ThermostatFact, hinp, hphase, hgate]
      intro k
      have hg : ¬ p.graceRuns := fun g => k ⟨g.1, g.2.1⟩
      simpa [Gate.tick, hg] using hthermostat k
    · rw [Part.WantsFact, hpower, hheatWant, hlaneWant, hmotorWanted, hphase, hgate, Cycle.heatWantNow,
        Cycle.laneWantNow, Cycle.programStages, hphase, hbarred, hprogram, hresumed]
      exact hwants
    · rw [Part.OrderFact, hmotorWanted, hgate]
      exact horder
    · simp only [Part.MotorFact, Part.motorMayRun, hmotorWanted, hinp, hpower, hgate, Gate.tick,
        Timer.tick_eq_reached]
      exact hmotor
    · simp only [Part.PermitFact, Part.permitNow, hctl, hheld, hheatWant]
      exact hpermit
    · simp only [Part.HeatFact, StageGate.HeatFact, Part.stageMayStay, hctl, hinp, hpower, hgate, Gate.tick,
        StageGate.tick, Timer.tick_eq_reached]
      exact hheat
    · rintro ⟨hrun, hone⟩
      rw [hheld] at hone
      rw [Part.tick_starvation hone]
      exact hstarvation ⟨hpower ▸ hrun, hone⟩
    · simp only [Part.SendFact, Part.dropDue, Part.dropTarget, Part.takeDue, Part.laneDue, hctl, hheld, hheatWant,
        hlaneWant, hgate, Part.tick_freeStages hw, Part.tick_roster hw, Roster.lane_tick_eq_none, Gate.tick,
        Timer.tick_eq_reached]
      exact hsend
    · rw [Part.WaitFact, Part.wantUnmet, hheld, hheatWant, hlaneWant, hctl]
      exact hwait
  · rw [Part.tick, if_neg hw]
    exact .ite (fun _ => h.congr rfl rfl rfl rfl rfl rfl p.sup.tickOutage_power) fun _ => h

/-- Every step leaves the derived state worked out. -/
theorem step_settled {s t : State} (hs : s.Settled) (h : step s = .next t) : t.Settled :=
  step_keeps (P := Part.Settled) effectOf_settled (fun _ k => k.tick)
    (fun _ _ k => k.congr rfl rfl rfl rfl rfl rfl rfl) hs h

end Sys2Proof.Machine

namespace Sys2Proof.Machine

/-! ### Frames composed and frames free of FORM errors -/

section FormRules
variable (u : BitVec 2) (a st : BitVec 4) (x y : BitVec 2) (b : BitVec 5) (c : BitVec 3)

theorem formOk_dark : (⟨u, a, st, .dark⟩ : Frame).formOk = true ↔ u = 0 ∧ a = 15 := by
  simp [Frame.formOk]

theorem formOk_drop : (⟨u, a, st, .drop x y⟩ : Frame).formOk = true ↔
    u = 0 ∧ a = 15 ∧ x ≠ 0 ∧ x ≠ 3 ∧ y ≠ 2 ∧ y ≠ 3 ∧ x.toNat + y.toNat ≤ 2 := by
  have hy : y.toNat < 2 ↔ y ≠ 2 ∧ y ≠ 3 := by revert y; decide
  simp [Frame.formOk, hy, and_assoc]

theorem formOk_hold : (⟨u, a, st, .hold x y b c⟩ : Frame).formOk = true ↔
    u = 0 ∧ a = 15 ∧ x ≠ 2 ∧ x ≠ 3 ∧ (x = 1 → y = 0) ∧ y ≠ 3 ∧ c ≠ 6 ∧ c ≠ 7 := by
  have hx : x.toNat < 2 ↔ x ≠ 2 ∧ x ≠ 3 := by revert x; decide
  have hc : c.toNat < 6 ↔ c ≠ 6 ∧ c ≠ 7 := by revert c; decide
  simp [Frame.formOk, hx, hc, and_assoc, imp_iff_not_or]

theorem formOk_take : (⟨u, a, st, .take x y⟩ : Frame).formOk = true ↔
    u ≠ 2 ∧ u ≠ 3 ∧ x ≠ 0 ∧ x ≠ 3 ∧ y ≠ 0 ∧ y ≠ 3 ∧ x.toNat ≤ y.toNat := by
  have hu : u.toNat < 2 ↔ u ≠ 2 ∧ u ≠ 3 := by revert u; decide
  simp [Frame.formOk, hu, and_assoc]

theorem formOk_lane : (⟨u, a, st, .lane x⟩ : Frame).formOk = true ↔ x ≠ 3 ∧ x = u := by
  simp [Frame.formOk]

end FormRules

/-- A kind on offer is a kind of the pending-send set. -/
theorem Part.mem_send_of_offered {p : Part} {k : Kind} (h : p.offered = some k) :
    (k = .dark ∧ p.ctl.send.dark = true) ∨ (k = .drop ∧ p.ctl.send.drop = true) ∨
      (k = .hold ∧ p.ctl.send.hold = true) ∨ (k = .take ∧ p.ctl.send.take = true) ∨
      (k = .lane ∧ p.ctl.send.lane = true) := by
  unfold Part.offered at h
  repeat' split at h
  all_goals cases h <;> simp_all

theorem Part.kind_compose (p : Part) (k : Kind) : (p.compose k).kind = k := by cases k <;> rfl

theorem PhaseClass.code_lt (c : PhaseClass) : c.code < 6 := by cases c <;> decide

theorem Part.formOk_compose_drop {p : Part} (hheld : p.ownHeld ≤ 2) (h : p.dropTarget < p.ownHeld) :
    (p.compose .drop).formOk = true := by
  refine (formOk_drop _ _ _ _ _).mpr ?_
  generalize p.dropTarget = t at *
  generalize p.ownHeld = n at *
  interval_cases n <;> interval_cases t <;> decide

theorem Part.formOk_compose_hold {p : Part} (hheld : p.ownHeld ≤ 2) : (p.compose .hold).formOk = true := by
  have hcode : ∀ n < 6, BitVec.ofNat 3 n ≠ 6 ∧ BitVec.ofNat 3 n ≠ 7 := by decide
  have hstages : ∀ n ≤ 2, BitVec.ofNat 2 n ≠ 3 := by decide
  refine (formOk_hold _ _ _ _ _ _ _).mpr ⟨rfl, rfl, ?_⟩
  refine ⟨?_, ?_, ?_, ?_, hcode _ p.cyc.phaseClass.code_lt⟩
  · split <;> decide
  · split <;> decide
  · split <;> simp
  · split
    · decide
    · exact hstages _ hheld

theorem Part.formOk_compose_take {p : Part} (hwant : p.cyc.heatWant ≤ 2) (hunmet : p.ownHeld < p.cyc.heatWant)
    (hfree : 1 ≤ p.freeStages) : (p.compose .take).formOk = true := by
  have hstages : 1 ≤ p.stagesAdded ∧ p.ownHeld + p.stagesAdded ≤ 2 := by unfold Part.stagesAdded; omega
  refine (formOk_take _ _ _ _ _).mpr ⟨?_, ?_, ?_⟩
  · split <;> decide
  · split <;> decide
  · obtain ⟨hone, htwo⟩ := hstages
    generalize p.stagesAdded = added at *
    generalize p.ownHeld = n at *
    have hn : n ≤ 2 := by omega
    have hadded : added ≤ 2 := by omega
    revert hone htwo
    interval_cases n <;> interval_cases added <;> decide

theorem Part.formOk_compose_lane {p : Part} (hlane : ∀ u ∈ p.cyc.laneWant, u ≤ 2) (h : p.cyc.laneWant.isSome) :
    (p.compose .lane).formOk = true := by
  obtain ⟨u, hu⟩ := Option.isSome_iff_exists.mp h
  have hreason : ∀ n ≤ 2, BitVec.ofNat 2 n ≠ 3 := by decide
  refine (formOk_lane _ _ _ _).mpr ⟨?_, rfl⟩
  rw [hu]
  exact hreason u (hlane u hu)

/-- What a settled part offers breaks no FORM rule: DROP, TAKE and LANE are in the set only while their conditions
hold (03, R65, R66, R68), and these are what the rules of 01, R12 to R15 ask for. -/
theorem Part.formOk_compose_offered {p : Part} {k : Kind} (h : p.Settled) (hheld : p.ownHeld ≤ 2)
    (hwant : p.cyc.heatWant ≤ 2) (hlane : ∀ u ∈ p.cyc.laneWant, u ≤ 2) (ho : p.offered = some k) :
    (p.compose k).formOk = true := by
  obtain ⟨-, -, -, -, -, -, -, ⟨-, hdrop, -, htake, hlaneSet⟩, -⟩ := Part.facts_of_settled h
  rcases Part.mem_send_of_offered ho with ⟨rfl, -⟩ | ⟨rfl, hs⟩ | ⟨rfl, -⟩ | ⟨rfl, hs⟩ | ⟨rfl, hs⟩
  · rfl
  · obtain ⟨-, hlt, -⟩ := hdrop.mp hs
    exact Part.formOk_compose_drop hheld hlt
  · exact Part.formOk_compose_hold hheld
  · obtain ⟨-, -, hunmet, hfree, -⟩ := htake.mp hs
    exact Part.formOk_compose_take hwant hunmet hfree
  · obtain ⟨-, hsome, -⟩ := hlaneSet.mp hs
    exact Part.formOk_compose_lane hlane hsome

/-- Settles O9, by the condition of each kind of the pending-send set. -/
theorem offeredFramesAreWellFormed : Obligations.OfferedFramesAreWellFormed :=
  fun p k hs hheld hwant hlane ho => ⟨Part.formOk_compose_offered hs hheld hwant hlane ho, p.kind_compose k⟩

end Sys2Proof.Machine

namespace Sys2Proof.Machine

/-! ### Properties that the shared updates keep

An invariant that looks at few blocks is kept by most operations for one reason: they are made of the same updates.
`Part.Kept P` says that these updates keep `P`; the lemmas below then follow the operations once, for every such `P`. -/

/-- The updates that events are made of keep `P`. A line unit written keeps or drops its frames and its score saturates;
a cycle engine written keeps program and wants. -/
structure Part.Kept (P : Part → Prop) : Prop where
  setGate {p : Part} (h : P p) (g : Gate) : P { p with gate := g }
  setSup {p : Part} (h : P p) (u : Supply) : P { p with sup := u }
  setPort {p : Part} (h : P p) (x : Port) : P { p with port := x }
  setInp {p : Part} (h : P p) (m : InputMonitor) : P { p with inp := m }
  setPins {p : Part} (h : P p) (x : Pins) : P { p with pins := x }
  setFreeCount {p : Part} (h : P p) (n : Nat) : P { p with freeCount := n }
  setLine {p : Part} (h : P p) {l : LineUnit} (hsent : l.sent = p.line.sent ∨ l.sent = none)
    (hreceived : l.received = p.line.received ∨ l.received = none)
    (hscore : l.score ≤ max 255 p.line.score) : P { p with line := l }
  setCyc {p : Part} (h : P p) {c : Cycle} (hprogram : c.program = p.cyc.program)
    (hheat : c.heatWant = p.cyc.heatWant) (hlane : c.laneWant = p.cyc.laneWant) : P { p with cyc := c }
  setShed {p : Part} (h : P p) (b : Bool) : P { p with ctl := { p.ctl with shed := b } }
  enterStanding {p : Part} (h : P p) (x : Standing) : P (p.enterStanding x)
  notify {p : Part} (h : P p) (n : Notice) : P (p.notify n)
  requestCheckpoint {p : Part} (h : P p) : P p.requestCheckpoint
  settle {p : Part} (h : P p) : P p.settle
  /-- Start values have the property. -/
  start {p : Part} (hline : p.line = LineUnit.start) (hroster : p.roster = Roster.start) (hcyc : p.cyc = Cycle.start)
    (hctl : p.ctl = Controller.start) (hntc : p.ntc = NoticeQueue.start) (hnewest : p.jrn.newest = none)
    (hoperation : p.jrn.operation = none) (hdecided : p.res.decided = false) : P p

namespace Part.Kept

variable {P : Part → Prop} (hP : Part.Kept P)
include hP

omit hP in
theorem ite {q r : Part} {c : Prop} [Decidable c] (ht : c → P q) (hf : ¬ c → P r) : P (if c then q else r) := by
  split
  · next h => exact ht h
  · next h => exact hf h

variable {p : Part} (h : P p)

/-! #### Start values -/

omit h in
theorem lose (p : Part) (u : Supply) : P { p.lose with sup := u } := hP.start rfl rfl rfl rfl rfl rfl rfl rfl

omit h in
theorem startPath (p : Part) (path : ResetPath) (u : Supply) : P { p.startPath path with sup := u } :=
  hP.start rfl rfl rfl rfl rfl rfl rfl rfl

omit h in
theorem leaveStandby (p : Part) : P p.leaveStandby :=
  ite (fun _ => hP.startPath _ _ _) fun _ => hP.startPath _ _ _

omit h in
theorem collapse (p : Part) : P p.collapse := hP.lose _ _

omit h in
theorem enterStandby (p : Part) (warm : Bool) : P (p.enterStandby warm) :=
  ite (fun _ => hP.collapse _) fun _ => ite (fun _ => hP.leaveStandby _) fun _ => hP.lose _ _

omit h in
theorem executeStationReset (p : Part) : P p.executeStationReset := hP.start rfl rfl rfl rfl rfl rfl rfl rfl

include h

/-! #### Notices, standings and the score -/

theorem notifyOwn (k : NoticeKind) (v : Option Nat) : P (p.notifyOwn k v) := hP.notify h _
theorem notifyFault (f : FaultKind) : P (p.notifyFault f) := hP.notify h _
theorem changeStanding (x : Standing) : P (p.changeStanding x) := hP.notify (hP.enterStanding h x) _
theorem faultStanding (x : Standing) (f : FaultKind) : P (p.faultStanding x f) := hP.notify (hP.enterStanding h x) _
theorem answer (code : ResultCode) (data : List Byte) : P (p.answer code data) := hP.setPort h _
theorem holdRequest (r : HeldRequest) : P (p.holdRequest r) := hP.setPort h _
theorem latchDoor : P p.latchDoor := hP.setSup h _

theorem onDuplicateStation : P p.onDuplicateStation := ite (fun _ => h) fun _ => hP.faultStanding h _ _
theorem onLineStuck : P p.onLineStuck := ite (fun _ => hP.faultStanding h _ _) fun _ => hP.notifyFault h _
theorem onScoreHigh : P p.onScoreHigh := ite (fun _ => hP.faultStanding h _ _) fun _ => h

theorem scoreError : P p.scoreError := by
  have k : P { p with line := { p.line with score := min 255 (p.line.score + 8) } } :=
    hP.setLine h (.inl rfl) (.inl rfl) ((Nat.min_le_left _ _).trans (le_max_left _ _))
  exact ite (fun _ => h) fun _ => ite (fun _ => hP.onScoreHigh k) fun _ => k

theorem scoreClean : P p.scoreClean := by
  have k : P { p with line := { p.line with score := p.line.score - 1 } } :=
    hP.setLine h (.inl rfl) (.inl rfl) ((Nat.sub_le _ _).trans (le_max_right _ _))
  exact ite (fun _ => hP.changeStanding k _) fun _ => k

theorem onExcess (n : Nat) : P (p.onExcess n) := ite (fun _ => hP.notifyOwn (hP.setShed h true) _ _) fun _ => h

theorem excessCheck : P p.excessCheck := by
  unfold Part.excessCheck
  split
  · exact h
  · exact ite (fun _ => hP.onExcess h _) fun _ => h

/-! #### The cycle engine -/

theorem changePhase (x : Phase) : P (p.changePhase x) :=
  hP.requestCheckpoint (hP.notifyOwn (hP.setCyc h (c := p.cyc.enter x) rfl rfl rfl) _ _)

theorem endCycle (x : CycleOutcome) : P (p.endCycle x) :=
  hP.requestCheckpoint (hP.notifyOwn (hP.notify (hP.setCyc h (c := p.cyc.ended x) rfl rfl rfl) _) _ _)

theorem endCooling : P p.endCooling := by
  unfold Part.endCooling
  split
  · exact hP.changePhase (by exact hP.setCyc h rfl rfl rfl) _
  · exact hP.endCycle (by exact hP.setCyc h rfl rfl rfl) _

theorem endDrying : P p.endDrying := by
  have k (c : Countdown) : P (Part.changePhase { p with cyc := { p.cyc with remainingDry := 0, cool := c } } .cool) :=
    hP.changePhase (by exact hP.setCyc h rfl rfl rfl) _
  exact ite (fun _ => hP.endCooling (k _)) fun _ => k _

theorem endBurst : P p.endBurst := by
  have k : P { p with cyc := { p.cyc with burst := ⟨0, 0⟩ } } := hP.setCyc h rfl rfl rfl
  unfold Part.endBurst
  dsimp only
  split
  · exact hP.changePhase (by exact hP.setCyc h rfl rfl rfl) _
  · exact hP.endCycle k _

theorem haltCycle (f : FaultKind) : P (p.haltCycle f) :=
  hP.changePhase (by exact hP.setCyc (hP.notifyFault h f) rfl rfl rfl) _

theorem laneGrant : P p.laneGrant := by
  have k := hP.setGate h { p.gate with startOrder := true }
  unfold Part.laneGrant
  split
  · exact hP.changePhase k _
  · split
    · exact hP.changePhase (by exact hP.setCyc k rfl rfl rfl) _
    · exact h

theorem rotationConfirmed : P p.rotationConfirmed := by
  unfold Part.rotationConfirmed
  split
  · split
    · exact hP.changePhase (by exact hP.setCyc h rfl rfl rfl) _
    · exact hP.changePhase (by exact hP.setCyc h rfl rfl rfl) _
    · exact h
  · exact h

theorem doorOpened : P p.doorOpened := by
  unfold Part.doorOpened
  split
  · exact h
  · exact hP.endCycle h _

theorem barHeat : P p.barHeat := by
  have k : P { p with cyc := { p.cyc with heatBarred := true } } := hP.setCyc h rfl rfl rfl
  unfold Part.barHeat
  dsimp only
  split
  · exact k
  · exact hP.setCyc (hP.notifyFault k _) rfl rfl rfl

theorem highLimitTripped : P p.highLimitTripped := by
  have k := hP.barHeat h
  unfold Part.highLimitTripped Part.highLimitTripped.coolLater
  split
  · exact h
  · exact hP.changePhase (by exact hP.setCyc k rfl rfl rfl) _
  · exact hP.requestCheckpoint (by exact hP.setCyc k rfl rfl rfl)
  · exact hP.requestCheckpoint (by exact hP.setCyc k rfl rfl rfl)
  · exact hP.requestCheckpoint (by exact hP.setCyc k rfl rfl rfl)
  all_goals exact hP.requestCheckpoint k

theorem trimmed (minutes : Nat) : P (p.trimmed minutes) := by
  have k : P (Part.requestCheckpoint { p with cyc := { p.cyc with remainingDry := minutes * 60, credit := 0 } }) :=
    hP.requestCheckpoint (by exact hP.setCyc h rfl rfl rfl)
  exact ite (fun _ => hP.endDrying k) fun _ => k

theorem inputsAtDecision : P p.inputsAtDecision := by
  have k : P (if p.inp.level.door = true then p.doorOpened else p) := ite (fun _ => hP.doorOpened h) fun _ => h
  exact ite (fun _ => hP.highLimitTripped k) fun _ => k

theorem notifyEnded (r : Record) (x : Placement) : P (p.notifyEnded r x) := by
  cases x with
  | asRecorded => exact h
  | continued => exact h
  | ended => exact hP.notify h _

/-! #### The supply -/

theorem rideCheck : P p.rideCheck :=
  ite (fun _ => ite (fun _ => hP.setSup h _) fun _ => ite (fun _ => h) fun _ => hP.enterStandby _ _) fun _ => h

theorem onQuiet : P p.onQuiet :=
  ite (fun _ => hP.executeStationReset _) fun _ => hP.rideCheck (hP.setSup h _)

theorem afterLine : P p.afterLine := hP.rideCheck (hP.settle h)

theorem declare : P p.declare := by
  have hdark := hP.setSup h (p.sup.declared p.inp.level.door)
  have hasked := hP.requestCheckpoint (ite (fun _ => hdark) fun _ => hP.changeStanding hdark _ : P (Part.goDark _))
  have hrefused : P (Part.refuseHeldReset _) := ite (fun _ => hP.answer hasked _ _) fun _ => hasked
  exact hP.settle (ite (fun _ => hP.setSup hrefused _) fun _ => hrefused)

/-! #### The line unit -/

theorem receiveNew : P p.receiveNew := hP.setLine h (.inr rfl) (.inr rfl) (le_max_right _ _)

theorem toIdle (n : Nat) : P { p with line := p.line.toIdle n } := hP.setLine h (.inr rfl) (.inr rfl) (le_max_right _ _)

theorem follow (role : Role) : P (p.follow role) := by
  refine hP.setLine h ?_ (.inr rfl) (le_max_right _ _)
  dsimp only
  split
  · exact .inl rfl
  · exact .inr rfl

/-! #### The appliance port -/

theorem exchange (n : Nat) {release : Part → Part} (hrelease : ∀ q : Part, P q → P (release q)) :
    P (p.exchange n release) :=
  ite (fun _ => ite (fun _ => hP.setPort h _) fun _ => hrelease _ (hP.setPort h _)) fun _ => h

theorem request (n : Nat) {run : Part → Part} (hrun : ∀ q : Part, P q → P (run q)) : P (p.request n run) :=
  hP.exchange h n fun _ hq => hrun _ (hP.setPort hq _)

/-! #### The commands -/

theorem onStartMarkRecognised (hverdict : P (p.verdict true true)) (b : Bool) : P (onStartMarkRecognised b p) := by
  have k := hP.afterLine hverdict
  unfold Machine.onStartMarkRecognised
  split
  · split
    · exact hP.receiveNew h
    · exact hP.setLine h (.inl rfl) (.inl rfl) (le_max_right _ _)
    · exact hP.afterLine (hP.receiveNew h)
    · exact hP.afterLine (ite (fun _ => hP.receiveNew h) fun _ => hP.scoreError (hP.receiveNew h))
    · split
      · exact ite (fun _ => hP.receiveNew k) fun _ => k
      · exact hP.afterLine (hP.scoreError (hP.receiveNew h))
    · exact h
  · exact h

theorem onPayloadLoss (b : Bool) : P (onPayloadLoss b p) :=
  ite (fun _ => ite (fun _ => hP.afterLine (hP.receiveNew h)) fun _ =>
    hP.afterLine (hP.onDuplicateStation (hP.follow h _))) fun _ => h

theorem onInterference (b : Bool) : P (onInterference b p) :=
  ite (fun _ => ite (fun _ => hP.afterLine (hP.receiveNew h)) fun _ => hP.rideCheck (hP.follow h _)) fun _ => h

theorem lineStuck : P (Machine.onLineStuck p) := by
  have k : P { p with line := { p.line.toIdle 0 with state := .stuck } } :=
    hP.setLine h (.inr rfl) (.inr rfl) (le_max_right _ _)
  exact ite (fun _ => hP.afterLine (hP.onLineStuck k)) fun _ => h

theorem onCreditSecond : P (onCreditSecond p) := by
  have k (n : Nat) : P { p with cyc := { p.cyc with remainingDry := n, credit := 0 } } := hP.setCyc h rfl rfl rfl
  exact ite (fun _ => hP.settle (ite (fun _ => hP.endDrying (k _)) fun _ => k _)) fun _ => h

theorem onHeatStarved : P (onHeatStarved p) :=
  ite (fun _ => hP.notifyOwn (by exact hP.setCyc h rfl rfl rfl) _ _) fun _ => h

theorem onCheckpointTimerExpiry : P (onCheckpointTimerExpiry p) :=
  ite (fun _ => hP.requestCheckpoint (by exact hP.setCyc h rfl rfl rfl)) fun _ => h

theorem onRestExpiry : P (onRestExpiry p) :=
  ite (fun _ => hP.settle (hP.changePhase (by exact hP.setCyc h rfl rfl rfl) _)) fun _ => h

theorem onWindowExpiry : P (onWindowExpiry p) := by
  have k : P { p with cyc := { p.cyc with window := ⟨0, 0⟩ } } := hP.setCyc h rfl rfl rfl
  exact ite (fun _ => hP.settle (hP.endCycle k _)) fun _ => ite (fun _ => k) fun _ => h

theorem inputTaken (i : Input) (b : Bool) : P (p.inputTaken i b) := by
  cases i with
  | door =>
    exact ite (fun _ => ite (fun _ => hP.doorOpened h) fun _ => ite (fun _ => hP.latchDoor h) fun _ => h) fun _ => h
  | exhaustHot => exact ite (fun _ => hP.setGate h _) fun _ => hP.setGate h _
  | highLimit => exact ite (fun _ => hP.highLimitTripped h) fun _ => h
  | mains =>
    exact ite (fun _ => ite (fun _ => h) fun _ => hP.setSup h _) fun _ => ite (fun _ => hP.setSup h _) fun _ => h

theorem watchedInStandby (i : Input) (b : Bool) : P (p.watchedInStandby i b) := by
  unfold Part.watchedInStandby
  split
  · cases i with
    | door => exact hP.latchDoor h
    | mains => exact hP.leaveStandby p
    | exhaustHot => exact h
    | highLimit => exact h
  · exact h

theorem onInputChange (i : Input) (b : Bool) : P (onInputChange i b p) := by
  have hpins := hP.setPins h { p.pins with level := p.pins.level.with i b }
  have htaken := hP.inputTaken (hP.setInp hpins (p.inp.changed i b)) i b
  exact ite (fun _ => hP.settle (ite (fun _ => htaken) fun _ => hP.notifyOwn htaken _ _)) fun _ =>
    hP.watchedInStandby hpins i b

theorem onTachPulse : P (onTachPulse p) := by
  unfold Machine.onTachPulse
  split
  · split
    · exact h
    · exact hP.settle (hP.rotationConfirmed (hP.setGate h _))
    · exact hP.setGate h _
  · exact h

theorem onNoRotation : P (onNoRotation p) := by
  have k := hP.setGate h p.gate.motorOff
  exact ite (fun _ => hP.settle (ite (fun _ => hP.haltCycle k _) fun _ => k)) fun _ => h

theorem onRotationLost : P (onRotationLost p) := by
  have k := hP.setGate h p.gate.motorOff
  exact ite (fun _ => hP.settle (ite (fun _ => hP.haltCycle k _) fun _ => k)) fun _ => h

theorem onPowerApplied (straps : BitVec 4) : P (onPowerApplied straps p) :=
  ite (fun _ => hP.startPath _ _ _) fun _ => h

theorem onReplyFetch (n : Nat) : P (onReplyFetch n p) := by
  unfold Machine.onReplyFetch
  split
  · split
    · exact ite (fun _ => hP.setPort h _) fun _ => hP.setPort h _
    · exact hP.setPort h _
    · exact hP.setPort h _
    · exact h
  · exact h

theorem runStationReset (straps : BitVec 4) :
    P (Part.runStationReset { p with pins := { p.pins with straps := straps } }) :=
  ite (fun _ => hP.answer (hP.setPins h _) _ _) fun _ =>
    ite (fun _ => hP.executeStationReset _) fun _ => hP.holdRequest (hP.setPins h _) _

theorem runTrim (m : Byte) : P (p.runTrim m) :=
  ite (fun _ => hP.answer h _ _) fun _ => ite (fun _ => hP.answer h _ _) fun _ =>
    hP.settle (hP.answer (hP.trimmed h _) _ _)

theorem runCancel : P p.runCancel :=
  ite (fun _ => hP.settle (hP.answer (hP.endCycle h _) _ _)) fun _ => hP.answer h _ _

theorem runReadCheckpoint : P p.runReadCheckpoint :=
  ite (fun _ => hP.holdRequest h _) fun _ => hP.answer h _ _

end Part.Kept

/-- The commands that do more than the shared updates: they compose, read or apply a frame, age an entry, count the
wait age, take or give notices, set a configuration or a program, or write the journal. -/
def doesMore : Instr → Bool
  | .transmissionStart | .lineGoesDominant _ | .closingSpacerEnd _ | .verdictSlotEnd _ _ | .startMarkRecognised _
  | .laneSpacingExpiry | .entryAgedLost _ | .censusTimerExpiry | .configure _ _ _ _ _ | .beginCycle _ _ _ _ _ _ | .clear
  | .takeNotice | .agedTimerExpiry | .endOfQualification | .startReadComplete | .writeCompletion _
  | .eraseCompletion => true
  | _ => false

/-- Every command that does no more than the shared updates keeps what they keep. -/
theorem Part.Kept.effectOf {P : Part → Prop} (hP : Part.Kept P) {p : Part} (h : P p) (i : Instr)
    (hmore : doesMore i = true → P (effectOf i p)) : P (effectOf i p) := by
  cases i with
  | arbitrationLost => exact ite (fun _ => hP.rideCheck (hP.follow h _)) fun _ => h
  | payloadLoss b => exact hP.onPayloadLoss h b
  | interference b => exact hP.onInterference h b
  | invalidKindAbandon k => exact ite (fun _ => hP.settle (hP.scoreError (hP.toIdle h _))) fun _ => h
  | lineIdle => exact ite (fun _ => hP.setLine h (.inl rfl) (.inl rfl) (le_max_right _ _)) fun _ => h
  | courtesyGapEnd => exact ite (fun _ => hP.setLine h (.inl rfl) (.inl rfl) (le_max_right _ _)) fun _ => h
  | lineStuck => exact hP.lineStuck h
  | stuckCleared => exact ite (fun _ => hP.toIdle h _) fun _ => h
  | listenTimerExpiry => exact ite (fun _ => hP.settle (hP.changeStanding h _)) fun _ => h
  | standingTimerExpiry => exact ite (fun _ => hP.settle (hP.faultStanding h _ _)) fun _ => h
  | trim m => exact hP.request h _ fun _ k => hP.runTrim k m
  | cancel => exact hP.request h _ fun _ k => hP.runCancel k
  | stationReset straps => exact hP.request h _ fun _ k => hP.runStationReset k straps
  | readStanding => exact hP.request h _ fun _ k => hP.answer (hP.setInp k _) _ _
  | readRoster => exact hP.request h _ fun _ k => hP.answer k _ _
  | readCheckpoint => exact hP.request h _ fun _ k => hP.runReadCheckpoint k
  | unknownCommand c => exact ite (fun _ => hP.exchange h _ fun _ k => hP.answer k _ _) fun _ => h
  | incompleteRequest c n => exact ite (fun _ => hP.exchange h _ fun _ k => hP.setPort k _) fun _ => h
  | requestWhileBusy n => exact ite (fun _ => hP.exchange h _ fun _ k => k) fun _ => h
  | replyFetch n => exact hP.onReplyFetch h n
  | creditSecond => exact hP.onCreditSecond h
  | endOfCooling => exact ite (fun _ => hP.settle (hP.endCooling h)) fun _ => h
  | heatStarved => exact hP.onHeatStarved h
  | checkpointTimerExpiry => exact hP.onCheckpointTimerExpiry h
  | restExpiry => exact hP.onRestExpiry h
  | burstEnd => exact ite (fun _ => hP.settle (hP.endBurst h)) fun _ => h
  | windowExpiry => exact hP.onWindowExpiry h
  | inputChange i b => exact hP.onInputChange h i b
  | heatMinOffElapsed n => exact ite (fun _ => hP.settle (hP.setGate h _)) fun _ => h
  | heatMinOnReached n => exact ite (fun _ => hP.settle (hP.setGate h _)) fun _ => h
  | thermostatGraceExpiry => exact ite (fun _ => hP.settle (hP.setGate h _)) fun _ => h
  | motorMinOffElapsed => exact ite (fun _ => hP.settle (hP.setGate h _)) fun _ => h
  | tachPulse => exact hP.onTachPulse h
  | noRotation => exact hP.onNoRotation h
  | rotationLost => exact hP.onRotationLost h
  | mainsDeclaredAbsent =>
    exact ite (fun _ => ite (fun _ => hP.collapse p) fun _ => hP.rideCheck (hP.declare h)) fun _ => h
  | qualifyDrop => exact ite (fun _ => hP.enterStandby p _) fun _ => h
  | settleExpiry => exact ite (fun _ => hP.setSup h _) fun _ => h
  | rideTimerExpiry => exact ite (fun _ => hP.rideCheck (hP.setSup h _)) fun _ => h
  | backupCollapse b => exact ite (fun _ => hP.collapse _) fun _ => hP.setPins h _
  | powerApplied straps => exact hP.onPowerApplied h straps
  | standbyMainsReturn straps =>
    exact ite (fun _ => hP.leaveStandby _) fun _ => hP.onPowerApplied h straps
  | doorLatchSet =>
    exact ite (fun _ => hP.latchDoor (hP.setPins h _)) fun _ => ite (fun _ => hP.latchDoor h) fun _ => h
  | arbitrationWon => exact ite (fun _ => hP.setLine h (.inl rfl) (.inl rfl) (le_max_right _ _)) fun _ => h
  | _ => exact hmore rfl

end Sys2Proof.Machine

namespace Sys2Proof.Machine

/-! ### The ranges of what a claim is composed from -/

/-- `Part.ClaimsOk` but for being settled, which has a proof of its own (`effectOf_settled`). -/
structure Part.InRange (p : Part) : Prop where
  journal : p.JournalOk
  held : p.HeldInRange
  wants : p.WantsInRange
  frames : p.line.FramesOk

theorem Part.claimsOk_iff {p : Part} : p.ClaimsOk ↔ p.Settled ∧ p.InRange :=
  ⟨fun ⟨hs, hj, hh, hw, hf⟩ => ⟨hs, hj, hh, hw, hf⟩, fun ⟨hs, hj, hh, hw, hf⟩ => ⟨hs, hj, hh, hw, hf⟩⟩

/-! #### One block written -/

section Blocks
variable {p : Part} (h : p.InRange)
include h

theorem Part.InRange.setLine {l : LineUnit} (hl : l.FramesOk) : Part.InRange { p with line := l } :=
  ⟨h.journal, h.held, h.wants, hl⟩

theorem Part.InRange.setRoster {r : Roster} (hr : ∀ i, (r.entry i).held ≤ 2) : Part.InRange { p with roster := r } :=
  ⟨h.journal, hr, h.wants, h.frames⟩

theorem Part.InRange.setCtl {c : Controller} (hc : c.config = p.ctl.config) : Part.InRange { p with ctl := c } := by
  obtain ⟨⟨hvalid, hspared, hstart⟩, hheld, hwants, hframes⟩ := h
  exact ⟨⟨hvalid, hspared, by rw [hc]; exact hstart⟩, hheld, hwants, hframes⟩

theorem Part.InRange.setCyc {c : Cycle} (hprogram : c.program = p.cyc.program) (hheat : c.heatWant = p.cyc.heatWant)
    (hlane : c.laneWant = p.cyc.laneWant) : Part.InRange { p with cyc := c } := by
  refine ⟨h.journal, h.held, ?_, h.frames⟩
  rw [Part.WantsInRange, hprogram, hheat, hlane]
  exact h.wants

theorem Part.InRange.setJrn {j : Journal} (hj : Part.JournalOk { p with jrn := j }) :
    Part.InRange { p with jrn := j } := ⟨hj, h.held, h.wants, h.frames⟩

end Blocks

/-! #### The derived state -/

theorem Part.settle_config (p : Part) : p.settle.ctl.config = p.ctl.config := by
  simp only [Part.settle, Part.settleWait_eq, Part.settleSend, Part.settleStarvation_ctl, Part.settleHeat_ctl,
    Part.settlePermit, Part.settleMotor_ctl, Part.settleOrder_ctl, Part.settleWants_ctl, Part.settleThermostat_ctl]

/-- After the wants, settling changes the cycle engine in its starvation timer alone. -/
theorem Part.settle_cyc (p : Part) : p.settle.cyc =
    { p.settleThermostat.settleWants.cyc with starvation := p.settle.cyc.starvation } := by
  simp only [Part.settle, Part.settleWait_cyc, Part.settleSend_cyc, Part.settleStarvation_eq, Part.settleHeat_cyc,
    Part.settlePermit_cyc, Part.settleMotor_cyc, Part.settleOrder_cyc]

theorem Cycle.heatWantNow_le {c : Cycle} (h : ∀ g ∈ c.program, g.inRange) (report : Bool) :
    c.heatWantNow report ≤ 2 := by
  unfold Cycle.heatWantNow Cycle.programStages
  split
  · cases hp : c.program with
    | none => simp
    | some g => obtain ⟨-, -, -, hstages, -⟩ := h g hp; exact hstages
  · omega

theorem Cycle.laneWantNow_le (c : Cycle) : ∀ u ∈ c.laneWantNow, u ≤ 2 := by
  unfold Cycle.laneWantNow
  split <;> simp
  split <;> omega

theorem Part.WantsInRange.settle {p : Part} (h : p.WantsInRange) : p.settle.WantsInRange := by
  obtain ⟨hprogram, hheat, hlane⟩ := h
  unfold Part.WantsInRange
  rw [Part.settle_cyc]
  unfold Part.settleWants
  split
  · refine ⟨?_, ?_, Cycle.laneWantNow_le _⟩
    · simpa using hprogram
    · exact Cycle.heatWantNow_le (by simpa using hprogram) _
  · simpa using ⟨hprogram, hheat, hlane⟩

theorem Part.InRange.settle {p : Part} (h : p.InRange) : p.settle.InRange := by
  refine ⟨?_, ?_, h.wants.settle, ?_⟩
  · have k := h.journal
    unfold Part.JournalOk Part.NewestValid at *
    simpa only [Part.settle_config, Part.settle_jrn, Part.settle_station, Part.settle_res] using k
  · simpa only [Part.HeldInRange, Part.settle_roster] using h.held
  · simpa only [Part.settle_line] using h.frames

/-! #### Checkpoints -/

/-- A write that begins goes to the other slot than the newest (08, R135). -/
theorem Part.journalOk_beginWrite {p : Part} (hvalid : p.NewestValid) (hread : p.jrn.startRead = false)
    (config : Configuration) : (p.beginWrite config).JournalOk := by
  refine ⟨hvalid, ?_, fun k => absurd (show p.jrn.startRead = true from k) (by simp [hread])⟩
  show p.jrn.newest ≠ some p.jrn.writeSlot
  unfold Journal.writeSlot
  cases hn : p.jrn.newest with
  | none => simp
  | some n => simpa using n.other_ne.symm

/-- What stands until the start read is over (08, R141; 09, R150). -/
theorem Part.InRange.of_startRead {p : Part} (h : p.InRange) (hread : p.jrn.startRead = true) :
    p.jrn.newest = none ∧ p.jrn.operation = none ∧ p.res.decided = false ∧ p.ctl.config = none := by
  obtain ⟨-, -, hstart⟩ := h.journal
  exact hstart hread

/-- The newest slot is spared by the operation in flight (08, R135). -/
theorem Part.InRange.newestSpared {p : Part} (h : p.InRange) : p.jrn.NewestSpared := by
  obtain ⟨-, hspared, -⟩ := h.journal
  exact hspared

/-- With a configuration the start read is over (08, R141). -/
theorem Part.InRange.startRead_of_config {p : Part} (h : p.InRange) {c : Configuration} (hc : p.ctl.config = some c) :
    p.jrn.startRead = false := by
  by_contra hread
  obtain ⟨-, -, -, hnone⟩ := h.of_startRead (by simpa using hread)
  simp [hc] at hnone

/-- With the resume decision made the start read is over (09, R150). -/
theorem Part.InRange.startRead_of_decided {p : Part} (h : p.InRange) (hd : p.res.decided = true) :
    p.jrn.startRead = false := by
  by_contra hread
  obtain ⟨-, -, hnot, -⟩ := h.of_startRead (by simpa using hread)
  simp [hd] at hnot

/-- With an operation in flight the start read is over (08, R141). -/
theorem Part.InRange.startRead_of_operation {p : Part} (h : p.InRange) (ho : p.jrn.operation ≠ none) :
    p.jrn.startRead = false := by
  by_contra hread
  obtain ⟨-, hnone, -, -⟩ := h.of_startRead (by simpa using hread)
  exact ho hnone

theorem Part.InRange.requestCheckpoint {p : Part} (h : p.InRange) : p.requestCheckpoint.InRange := by
  unfold Part.requestCheckpoint
  split
  · exact h
  · next config hc =>
    split
    · exact h.setJrn (Part.journalOk_beginWrite h.journal.1 (h.startRead_of_config hc) config)
    · exact h.setJrn h.journal

/-! #### The shared updates -/

/-- A part that has lost its blocks, or that begins a reset path, knows no newest slot and holds start values. -/
theorem Part.inRange_of_start {p : Part} (hline : p.line = LineUnit.start) (hroster : p.roster = Roster.start)
    (hcyc : p.cyc = Cycle.start) (hctl : p.ctl = Controller.start) (hnewest : p.jrn.newest = none)
    (hoperation : p.jrn.operation = none) (hdecided : p.res.decided = false) : p.InRange := by
  refine ⟨⟨?_, ?_, fun _ => ⟨hnewest, hoperation, hdecided, by rw [hctl]; rfl⟩⟩, ?_, ?_, ?_⟩
  · simp [Part.NewestValid, hnewest]
  · simp [Journal.NewestSpared, hoperation]
  · rw [Part.HeldInRange, hroster]; decide
  · rw [Part.WantsInRange, hcyc]; exact ⟨nofun, by decide, nofun⟩
  · rw [hline]; exact ⟨nofun, nofun⟩

theorem Part.inRange_kept : Part.Kept Part.InRange where
  setGate h _ := ⟨h.journal, h.held, h.wants, h.frames⟩
  setSup h _ := ⟨h.journal, h.held, h.wants, h.frames⟩
  setPort h _ := ⟨h.journal, h.held, h.wants, h.frames⟩
  setInp h _ := ⟨h.journal, h.held, h.wants, h.frames⟩
  setPins h _ := ⟨h.journal, h.held, h.wants, h.frames⟩
  setFreeCount h _ := ⟨h.journal, h.held, h.wants, h.frames⟩
  setLine := by
    intro p h l hsent hreceived _
    refine h.setLine ⟨?_, ?_⟩
    · obtain e | e := hsent <;> rw [e]
      exacts [h.frames.1, nofun]
    · obtain e | e := hreceived <;> rw [e]
      exacts [h.frames.2, nofun]
  setCyc h := h.setCyc
  setShed h _ := h.setCtl rfl
  enterStanding h _ := h.setCtl rfl
  notify h _ := ⟨h.journal, h.held, h.wants, h.frames⟩
  requestCheckpoint h := h.requestCheckpoint
  settle h := h.settle
  start hline hroster hcyc hctl _ hnewest hoperation hdecided :=
    Part.inRange_of_start hline hroster hcyc hctl hnewest hoperation hdecided

theorem Part.InRange.setNtc {p : Part} (h : p.InRange) (q : NoticeQueue) : Part.InRange { p with ntc := q } :=
  ⟨h.journal, h.held, h.wants, h.frames⟩

/-- A configuration is set only when the start read is over. -/
theorem Part.InRange.setConfig {p : Part} (h : p.InRange) (c : Option Configuration)
    (hc : p.jrn.startRead = true → c = none) : (p.setConfig c).InRange := by
  obtain ⟨⟨hvalid, hspared, hstart⟩, hheld, hwants, hframes⟩ := h
  refine Part.inRange_kept.excessCheck ⟨⟨hvalid, hspared, fun k => ?_⟩, hheld, hwants, hframes⟩
  obtain ⟨hnewest, hoperation, hdecided, -⟩ := hstart k
  exact ⟨hnewest, hoperation, hdecided, hc k⟩

/-! #### The start read and the resume decision -/

theorem Slot.eq_of_validRecord {s : Slot} {own : Station} {r : Record} (h : s.validRecord own = some r) :
    s = .record r ∧ r.inRange := by
  unfold Slot.validRecord at h
  split at h
  · split at h
    · next c =>
      obtain ⟨-, hrange, -⟩ := c
      obtain rfl := Option.some.inj h
      exact ⟨rfl, hrange⟩
    · cases h
  · cases h
  · cases h

/-- What the start read chooses is valid (08, R141). -/
theorem Journal.validRecord_of_chosen {j : Journal} {own : Station} {n : SlotName} {r : Record}
    (h : j.chosen own = some (n, r)) : (j.slot n).validRecord own = some r := by
  unfold Journal.chosen at h
  split at h
  · next ha hb =>
    split at h
    · cases h; exact hb
    · cases h; exact ha
  · next ha hb => cases h; exact ha
  · next ha hb => cases h; exact hb
  · cases h

/-- The newest slot, if there is one, holds a valid record of this station with the newest sequence. -/
theorem Part.newestValid_iff {p : Part} : p.NewestValid ↔ ∀ n, p.jrn.newest = some n →
    ∃ r, (p.jrn.slot n).validRecord p.station = some r ∧ p.jrn.newestSequence = some r.sequence := by
  unfold Part.NewestValid
  cases hn : p.jrn.newest with
  | none => simp
  | some n =>
    cases hr : (p.jrn.slot n).validRecord p.station with
    | none => simp [hr]
    | some r => simp [hr]

theorem Part.InRange.completeStartRead {p : Part} (h : p.InRange) (hread : p.jrn.startRead = true) :
    p.completeStartRead.InRange := by
  obtain ⟨-, hnone, -, -⟩ := h.of_startRead hread
  have k : Part.InRange { p with jrn := { p.jrn with
      newest := (p.jrn.chosen p.station).map (·.1)
      newestSequence := (p.jrn.chosen p.station).map (·.2.sequence)
      tornA := p.jrn.slotA.isTorn
      tornB := p.jrn.slotB.isTorn
      startRead := false
      elapsed := 0 } } := by
    refine h.setJrn ⟨Part.newestValid_iff.mpr fun n hn => ?_, ?_, nofun⟩
    · obtain ⟨⟨m, r⟩, hc, rfl⟩ := Option.map_eq_some_iff.mp hn
      exact ⟨r, Journal.validRecord_of_chosen hc, by simp [hc]⟩
    · simp [Journal.NewestSpared, hnone]
  exact Part.Kept.ite (fun _ => k) fun _ => Part.inRange_kept.notify k _

theorem Part.completeStartRead_startRead (p : Part) : p.completeStartRead.jrn.startRead = false := by
  unfold Part.completeStartRead
  dsimp only
  split <;> rfl

theorem Part.finishStartRead_startRead (p : Part) : p.finishStartRead.jrn.startRead = false := by
  unfold Part.finishStartRead
  dsimp only
  split
  · simpa using p.completeStartRead_startRead
  · exact p.completeStartRead_startRead

theorem Part.InRange.finishStartRead {p : Part} (h : p.InRange) (hread : p.jrn.startRead = true) :
    p.finishStartRead.InRange :=
  Part.Kept.ite (fun _ => Part.inRange_kept.answer (h.completeStartRead hread) _ _) fun _ => h.completeStartRead hread

theorem Part.InRange.newestRecord_inRange {p : Part} (h : p.InRange) {r : Record}
    (hr : p.jrn.newestRecord = some r) : r.inRange := by
  unfold Journal.newestRecord at hr
  split at hr
  · cases hr
  · next n hn =>
    obtain ⟨x, hx, -⟩ := Part.newestValid_iff.mp h.journal.1 n hn
    obtain ⟨hslot, hrange⟩ := Slot.eq_of_validRecord hx
    rw [hslot] at hr
    obtain rfl := Option.some.inj hr
    exact hrange

theorem Cycle.placed_program (r : Record) (x : Placement) : (Cycle.placed r x).program = r.program := by
  cases x with
  | asRecorded => simp only [Cycle.placed]; split <;> rfl
  | continued => rfl
  | ended => rfl

theorem Cycle.placed_heatWant (r : Record) (x : Placement) : (Cycle.placed r x).heatWant = 0 := by
  cases x with
  | asRecorded => simp only [Cycle.placed]; split <;> rfl
  | continued => rfl
  | ended => rfl

theorem Cycle.placed_laneWant (r : Record) (x : Placement) : (Cycle.placed r x).laneWant = none := by
  cases x with
  | asRecorded => simp only [Cycle.placed]; split <;> rfl
  | continued => rfl
  | ended => rfl

/-- The engine a record gives is in range when the record is. -/
theorem Part.InRange.setPlaced {p : Part} (h : p.InRange) {r : Record} (hr : r.inRange) (x : Placement) :
    Part.InRange { p with cyc := Cycle.placed r x } := by
  obtain ⟨-, hprogram, -⟩ := hr
  refine ⟨h.journal, h.held, ?_, h.frames⟩
  rw [Part.WantsInRange, Cycle.placed_program, Cycle.placed_heatWant, Cycle.placed_laneWant]
  exact ⟨hprogram, by omega, nofun⟩

theorem Part.InRange.takeCheckpointConfig {p : Part} (h : p.InRange) (hread : p.jrn.startRead = false) (r : Record) :
    (p.takeCheckpointConfig r).InRange := by
  have k := h.setConfig (some r.config) fun hr => absurd hr (by simp [hread])
  exact Part.Kept.ite (fun _ => Part.inRange_kept.enterStanding k _) fun _ => k

/-- The resume decision takes a valid record, once the start read is over. -/
theorem Part.InRange.resumeDecision {p : Part} (h : p.InRange) (hread : p.jrn.startRead = false) (outage : Option Nat)
    (latch : Bool) : (p.resumeDecision outage latch).InRange := by
  have hdecided : ∀ x : Resume, Part.InRange { p with res := x } := fun x => by
    obtain ⟨hvalid, hspared, -⟩ := h.journal
    exact ⟨⟨hvalid, hspared, fun k => absurd (show p.jrn.startRead = true from k) (by simp [hread])⟩,
      h.held, h.wants, h.frames⟩
  unfold Part.resumeDecision
  dsimp only
  split
  · have hnotified := Part.inRange_kept.notifyOwn
      (hdecided ⟨p.res.path, true, outageOf outage, some (classOf outage)⟩) .resume (some (outage.getD 65535))
    exact Part.inRange_kept.inputsAtDecision (Part.inRange_kept.requestCheckpoint hnotified)
  · next r hr =>
    have hconfig := (hdecided ⟨p.res.path, true, outageOf outage, some (classOf outage)⟩).takeCheckpointConfig hread r
    have hplaced := hconfig.setPlaced (h.newestRecord_inRange hr) (r.place outage latch p.freeCount)
    refine Part.inRange_kept.inputsAtDecision (Part.inRange_kept.requestCheckpoint
      (Part.inRange_kept.notifyEnded (Part.inRange_kept.notifyOwn ?_ _ _) r _))
    exact Part.inRange_kept.setFreeCount hplaced _

theorem Part.InRange.qualify {p : Part} (h : p.InRange) (hread : p.jrn.startRead = false) : p.qualify.InRange :=
  ((Part.inRange_kept.setSup h p.sup.qualified).resumeDecision hread _ _).settle

/-! #### Accepted frames -/

theorem Roster.entry_withEntry_held_le {r : Roster} {i : Station} {e : Entry} (h : ∀ j, (r.entry j).held ≤ 2)
    (he : e.held ≤ 2) (j : Station) : ((r.withEntry i e).entry j).held ≤ 2 := by
  by_cases hj : j = i
  · subst hj; simpa using he
  · simpa [hj] using h j

/-- What a frame without FORM errors makes of an entry that holds at most two stages. -/
theorem Entry.applied_held_le {e : Entry} {f : Frame} (he : e.held ≤ 2) (hf : f.formOk = true) :
    (e.applied f.body).held ≤ 2 := by
  have hstages : ∀ x : BitVec 2, x ≠ 3 → x.toNat ≤ 2 := by decide
  obtain ⟨u, a, st, body⟩ := f
  cases body with
  | dark => exact Nat.zero_le _
  | drop x y =>
    obtain ⟨-, -, -, -, -, hy, -⟩ := (formOk_drop _ _ _ _ _).mp hf
    exact hstages y hy
  | hold x y b c =>
    obtain ⟨-, -, -, -, -, hy, -⟩ := (formOk_hold _ _ _ _ _ _ _).mp hf
    exact hstages y hy
  | take x y =>
    obtain ⟨-, -, -, -, -, hy, -⟩ := (formOk_take _ _ _ _ _).mp hf
    exact hstages y hy
  | lane x => exact he

section Frames
variable {p : Part} (h : p.InRange)
include h

theorem Part.InRange.budgetMismatch (f : Frame) : (p.budgetMismatch f).InRange := by
  unfold Part.budgetMismatch
  dsimp only
  split
  · split
    · have hsame := h.held (stationOfField f.station)
      exact Part.inRange_kept.notify (h.setRoster (by exact Roster.entry_withEntry_held_le h.held hsame)) _
    · exact h
  · exact h

theorem Part.InRange.applyLane (f : Frame) : (p.applyLane f).InRange := by
  unfold Part.applyLane
  split
  · exact h.setRoster h.held
  all_goals exact h

theorem Part.InRange.applyFrame {f : Frame} (hf : f.formOk = true) : (p.applyFrame f).InRange := by
  have k := h.setRoster (Roster.entry_withEntry_held_le (i := stationOfField f.station) h.held
    (Entry.applied_held_le (h.held (stationOfField f.station)) hf))
  exact Part.inRange_kept.excessCheck ((k.budgetMismatch f).applyLane f)

theorem Part.InRange.applyOwnNumber (f : Frame) : (p.applyOwnNumber f).InRange :=
  Part.inRange_kept.excessCheck (h.applyLane f)

theorem Part.InRange.ownAccepted (f : Frame) : (p.ownAccepted f).InRange := by
  unfold Part.ownAccepted
  dsimp only
  split
  · split
    · exact Part.inRange_kept.changeStanding (by exact h.setCtl rfl) _
    · exact h.setCtl rfl
  · split
    · exact Part.inRange_kept.laneGrant (by exact h.setCtl rfl)
    · exact h.setCtl rfl
  · exact ⟨h.journal, h.held, h.wants, h.frames⟩
  · exact h.setCtl rfl
  · exact h.setCtl rfl

theorem Part.InRange.ownVoided (f : Frame) : (p.ownVoided f).InRange := Part.Kept.ite (fun _ => h.setCtl rfl) fun _ => h

/-- The frame composed for the kind on offer breaks no FORM rule (`Part.formOk_compose_offered`). -/
theorem Part.InRange.startFrame (hs : p.Settled) : p.startFrame.InRange := by
  unfold Part.startFrame
  split
  · exact h
  · next k hk =>
    obtain ⟨-, hheat, hlane⟩ := h.wants
    have hform := Part.formOk_compose_offered hs (h.held _) hheat hlane hk
    have hline : LineUnit.FramesOk { p.line with
        state := .arbitrating, role := .sender, sent := some (p.compose k).composed, received := none,
        recessive := 0 } :=
      ⟨fun f hf => by obtain rfl := Option.some.inj hf; exact hform, nofun⟩
    exact Part.InRange.setCtl (h.setLine hline) rfl

end Frames

/-! #### The line unit -/

theorem LineUnit.framesOk_of_none {l : LineUnit} (hs : l.sent = none) (hr : l.received = none) : l.FramesOk := by
  rw [LineUnit.FramesOk, hs, hr]
  exact ⟨nofun, nofun⟩

/-- A receiver takes a frame that breaks a FORM rule for erroneous (01, R19). -/
theorem formOk_of_readFrame {bits : List Bit} {f : Frame} (h : readFrame bits = some (f, false)) :
    f.formOk = true := by
  unfold readFrame at h
  dsimp only at h
  split at h
  · cases h
  · split at h
    · simp only [Option.some.injEq, Prod.mk.injEq, Bool.or_eq_false_iff, Bool.not_eq_false'] at h
      obtain ⟨rfl, -, hok⟩ := h
      exact hok
    · cases h

section Line
variable {p : Part} (h : p.InRange)
include h

theorem Part.InRange.ownVerdict {f : Frame} (hf : f.formOk = true) (voided : Bool) : (p.ownVerdict f voided).InRange :=
  Part.Kept.ite (fun _ => h.ownVoided f) fun _ => (h.applyFrame hf).ownAccepted f

theorem Part.InRange.receivedVerdict {r : ReceivedFrame} (hr : r.error = false → r.frame.formOk = true)
    (voided : Bool) : (p.receivedVerdict r voided).InRange := by
  unfold Part.receivedVerdict
  split
  · exact Part.inRange_kept.scoreError h
  · next hclean =>
    refine Part.inRange_kept.scoreClean (Part.Kept.ite (fun _ => h) fun _ => Part.Kept.ite (fun _ => ?_) fun _ => ?_)
    · exact Part.inRange_kept.onDuplicateStation (h.applyOwnNumber _)
    · exact h.applyFrame (hr (by simpa using hclean))

theorem Part.InRange.verdict_received (a b : Bool) : (Part.verdict.received a b p).InRange := by
  unfold Part.verdict.received
  split
  · exact Part.inRange_kept.toIdle h _
  · next r hr => exact (Part.inRange_kept.toIdle h _).receivedVerdict (h.frames.2 r hr) _

theorem Part.InRange.verdict (a b : Bool) : (p.verdict a b).InRange := by
  have hidle (n : Nat) : Part.InRange { p with line := { p.line.toIdle n with courtesy := true } } :=
    h.setLine (LineUnit.framesOk_of_none rfl rfl)
  unfold Part.verdict
  split
  · split
    · exact Part.inRange_kept.toIdle h _
    · next f hf => exact (hidle _).ownVerdict (h.frames.1 f hf) _
  · split
    · exact Part.inRange_kept.toIdle h _
    · next f hf => exact (hidle _).ownVerdict (h.frames.1 f hf) _
  · exact h.verdict_received a b
  · exact h.verdict_received a b
  · exact Part.inRange_kept.toIdle h _

theorem onClosingSpacerEnd_inRange (bits : List Bit) : (onClosingSpacerEnd bits p).InRange := by
  unfold onClosingSpacerEnd
  split
  · split
    · exact h.setLine h.frames
    · exact h.setLine h.frames
    · split
      · exact h
      · next f error hf =>
        refine h.setLine ⟨h.frames.1, fun r hr he => ?_⟩
        obtain rfl := Option.some.inj hr
        obtain rfl : error = false := he
        exact formOk_of_readFrame hf
    · exact h
  · exact h

theorem onLineGoesDominant_inRange (hs : p.Settled) (n : Nat) : (onLineGoesDominant n p).InRange := by
  have k : Part.InRange { p with line := { p.line with recessive := 0 } } := h.setLine h.frames
  exact Part.Kept.ite (fun _ => Part.Kept.ite (fun _ => k.startFrame (hs.setLine _)) fun _ => k) fun _ => h

end Line

theorem Part.InRange.census {p : Part} (h : p.InRange) : p.census.InRange := h.setCtl rfl

theorem onEntryAgedLost_inRange {p : Part} (h : p.InRange) (i : Station) : (onEntryAgedLost i p).InRange :=
  Part.Kept.ite (fun _ => by
    have k := h.setRoster
      (Roster.entry_withEntry_held_le (i := i) (e := (p.roster.entry i).aged) h.held (Nat.zero_le _))
    exact (Part.inRange_kept.notify k _).settle) fun _ => h

/-! #### The supply and the journal -/

section Supply
variable {p : Part} (h : p.InRange)
include h

theorem onEndOfQualification_inRange : (onEndOfQualification p).InRange :=
  Part.Kept.ite (fun _ => Part.Kept.ite (fun hread => (h.finishStartRead hread).qualify p.finishStartRead_startRead)
    fun hread => h.qualify (by simpa using hread)) fun _ => h

theorem onStartReadComplete_inRange : (onStartReadComplete p).InRange := by
  unfold onStartReadComplete
  split
  · next c =>
    have k := h.finishStartRead c.2
    exact Part.Kept.ite (fun _ => (k.resumeDecision p.finishStartRead_startRead _ _).settle) fun _ => k
  · exact h

/-- The slot written becomes the newest when it reads back valid; otherwise the newest, another one, stays (08, R135,
R138). So with the operation over the journal's invariant holds. -/
theorem Part.InRange.readBack {n : SlotName} {r : Record} (ho : p.jrn.operation = some (.write n r)) (good : Bool) :
    Part.InRange { p.readBack n r good with jrn := { (p.readBack n r good).jrn with operation := none } } := by
  have hread := h.startRead_of_operation (by simp [ho])
  have hspared : p.jrn.newest ≠ some n := by simpa [Journal.NewestSpared, ho] using h.newestSpared
  unfold Part.readBack
  split
  · next hvalid =>
    refine h.setJrn ⟨Part.newestValid_iff.mpr fun m hm => ?_, trivial, ?_⟩
    · obtain rfl : n = m := Option.some.inj hm
      obtain ⟨hslot, -⟩ := Slot.eq_of_validRecord hvalid
      refine ⟨r, ?_, rfl⟩
      have hwritten : (p.jrn.writeValid n r).slot n = .record r := by cases n <;> rfl
      exact (congrArg (Slot.validRecord · p.station) (hwritten.trans hslot.symm)).trans hvalid
    · intro k
      have hsame : (p.jrn.writeValid n r).startRead = p.jrn.startRead := by cases n <;> rfl
      exact absurd (hsame.symm.trans k) (by simp [hread])
  · refine Part.InRange.setJrn (h.setNtc _) ⟨Part.newestValid_iff.mpr fun m hm => ?_, trivial, ?_⟩
    · have hnewest : (p.jrn.writeTorn n r good).newest = p.jrn.newest := by cases n <;> rfl
      have hm' : p.jrn.newest = some m := hnewest.symm.trans hm
      have hne : n ≠ m := fun e => hspared (e ▸ hm')
      have hslot : (p.jrn.writeTorn n r good).slot m = p.jrn.slot m := by
        cases n with
        | a =>
          cases m with
          | a => exact absurd rfl hne
          | b => rfl
        | b =>
          cases m with
          | a => rfl
          | b => exact absurd rfl hne
      obtain ⟨x, hx, hsequence⟩ := Part.newestValid_iff.mp h.journal.1 m hm'
      refine ⟨x, (congrArg (Slot.validRecord · p.station) hslot).trans hx, ?_⟩
      have hkept : (p.jrn.writeTorn n r good).newestSequence = p.jrn.newestSequence := by cases n <;> rfl
      exact hkept.trans hsequence
    · intro k
      have hsame : (p.jrn.writeTorn n r good).startRead = p.jrn.startRead := by cases n <;> rfl
      exact absurd (hsame.symm.trans k) (by simp [hread])

omit h in
/-- What follows a write does not look at the operation that ends. -/
theorem Part.nextWrite_inRange (k : Part.InRange { p with jrn := { p.jrn with operation := none } })
    (hread : p.jrn.startRead = false) : p.nextWrite.InRange := by
  have hnot : ∀ {q : Prop}, p.jrn.startRead = true → q := fun c => absurd c (by simp [hread])
  unfold Part.nextWrite
  split
  · next config _ _ =>
    exact ⟨Part.journalOk_beginWrite (p := { p with jrn := { p.jrn with pendingWrite := false } }) k.journal.1 hread
      config, k.held, k.wants, k.frames⟩
  · exact Part.inRange_kept.onQuiet ⟨⟨k.journal.1, trivial, fun c => hnot c⟩, k.held, k.wants, k.frames⟩
  · exact Part.inRange_kept.onQuiet ⟨⟨k.journal.1, trivial, fun c => hnot c⟩, k.held, k.wants, k.frames⟩

omit h in
theorem Part.readBack_startRead (n : SlotName) (r : Record) (good : Bool) :
    (p.readBack n r good).jrn.startRead = p.jrn.startRead := by
  unfold Part.readBack
  split <;> cases n <;> rfl

theorem onWriteCompletion_inRange (good : Bool) : (onWriteCompletion good p).InRange := by
  unfold onWriteCompletion
  split
  · split
    · next n r ho =>
      refine Part.nextWrite_inRange (h.readBack ho good) ?_
      rw [Part.readBack_startRead]
      exact h.startRead_of_operation (by simp [ho])
    · exact h
    · exact h
  · exact h

theorem Part.InRange.answerHeldClear : p.answerHeldClear.InRange :=
  Part.Kept.ite (fun _ => Part.inRange_kept.answer h _ _) fun _ => h

/-- An erase runs only while there is no newest slot (08, R144). -/
theorem onEraseCompletion_inRange : (onEraseCompletion p).InRange := by
  have hjournal {n : SlotName} (ho : p.jrn.operation = some (.erase n)) {j : Journal}
      (hnewest : j.newest = p.jrn.newest) (hread : j.startRead = p.jrn.startRead)
      (hj : j.operation = none ∨ ∃ m, j.operation = some (.erase m)) : Part.InRange { p with jrn := j } := by
    have hnone : j.newest = none := by rw [hnewest]; simpa [Journal.NewestSpared, ho] using h.newestSpared
    have hover : j.startRead = false := hread.trans (h.startRead_of_operation (by simp [ho]))
    refine h.setJrn ⟨Part.newestValid_iff.mpr (by simp [hnone]), ?_, by simp [hover]⟩
    obtain ho | ⟨m, ho⟩ := hj <;> simp [Journal.NewestSpared, ho, hnone]
  unfold onEraseCompletion
  split
  · split
    · next ho => exact hjournal ho rfl rfl (.inr ⟨.b, rfl⟩)
    · next ho =>
      exact Part.inRange_kept.onQuiet (Part.InRange.answerHeldClear (by exact hjournal ho rfl rfl (.inl rfl)))
    · exact h
    · exact h
  · exact h

end Supply

/-! #### The appliance port -/

theorem Part.runConfigure_inRange (c : Configuration) (q : Part) (h : q.InRange) : (q.runConfigure c).InRange := by
  have hrefused (code : ResultCode) := Part.inRange_kept.answer h code []
  refine Part.Kept.ite (fun _ => hrefused _) fun _ => Part.Kept.ite (fun _ => hrefused _) fun hdecided =>
    Part.Kept.ite (fun _ => hrefused _) fun _ => ?_
  have hread := h.startRead_of_decided (by simpa using hdecided)
  have hconfig := h.setConfig (some c) fun k => absurd k (by simp [hread])
  exact (Part.inRange_kept.answer (Part.inRange_kept.changeStanding hconfig _).requestCheckpoint _ _).settle

theorem Part.runBegin_inRange (g : Program) (q : Part) (h : q.InRange) : (q.runBegin g).InRange := by
  have hrefused (code : ResultCode) := Part.inRange_kept.answer h code []
  refine Part.Kept.ite (fun _ => hrefused _) fun _ => Part.Kept.ite (fun _ => hrefused _) fun hrange => ?_
  have k : Part.InRange { q with cyc := q.cyc.begun g } := by
    obtain ⟨-, hheat, hlane⟩ := h.wants
    refine ⟨h.journal, h.held, ⟨fun x hx => ?_, hheat, hlane⟩, h.frames⟩
    obtain rfl : g = x := Option.some.inj hx
    exact not_not.mp hrange
  exact (Part.inRange_kept.answer (Part.inRange_kept.changePhase k _) _ _).settle

/-- CLEAR forgets the newest slot and the program, with the start read over (08, R144). -/
theorem Part.InRange.forget {r : Part} (h : r.InRange) (hread : r.jrn.startRead = false) :
    Part.InRange { r with cyc := { r.cyc with program := none, outcome := .none }, jrn := r.jrn.cleared } := by
  obtain ⟨-, hheat, hlane⟩ := h.wants
  refine ⟨⟨trivial, rfl, fun k => ?_⟩, h.held, ⟨by simp, hheat, hlane⟩, h.frames⟩
  exact absurd (show r.jrn.startRead = true from k) (by simp [hread])

theorem Part.InRange.cleared {q : Part} (h : q.InRange) (hread : q.jrn.startRead = false) : q.cleared.InRange := by
  have hconfig := h.setConfig none fun _ => rfl
  have hover : (q.setConfig none).jrn.startRead = false := by simpa using hread
  unfold Part.cleared
  dsimp only
  split
  · exact (Part.inRange_kept.holdRequest (hconfig.forget hover) _).settle
  · have hchanged := Part.inRange_kept.changeStanding hconfig .unconfigured
    exact (Part.inRange_kept.holdRequest (hchanged.forget hover) _).settle

theorem Part.runClear_inRange (q : Part) (h : q.InRange) : q.runClear.InRange :=
  Part.Kept.ite (fun c => h.cleared (h.startRead_of_decided c.2.1)) fun _ => Part.inRange_kept.answer h _ _

/-! #### Every step -/

/-- Whatever the command, the ranges are kept; a settled part offers only what is in range. -/
theorem effectOf_inRange (i : Instr) (p : Part) (hs : p.Settled) (h : p.InRange) : (effectOf i p).InRange := by
  refine Part.inRange_kept.effectOf h i fun hmore => ?_
  cases i with
  | transmissionStart => exact Part.Kept.ite (fun _ => h.startFrame hs) fun _ => h
  | startMarkRecognised b => exact Part.inRange_kept.onStartMarkRecognised h (h.verdict true true) b
  | closingSpacerEnd bits => exact onClosingSpacerEnd_inRange h bits
  | verdictSlotEnd a b => exact Part.Kept.ite (fun _ => Part.inRange_kept.afterLine (h.verdict a b)) fun _ => h
  | laneSpacingExpiry =>
    exact Part.Kept.ite (fun _ => (h.setRoster (r := { p.roster with lane := none }) h.held).settle) fun _ => h
  | entryAgedLost j => exact onEntryAgedLost_inRange h j
  | censusTimerExpiry => exact Part.Kept.ite (fun _ => h.census.settle) fun _ => h
  | configure b sp re li tr => exact Part.inRange_kept.request h _ (Part.runConfigure_inRange _)
  | beginCycle d st co w bu re => exact Part.inRange_kept.request h _ (Part.runBegin_inRange _)
  | clear => exact Part.inRange_kept.request h _ Part.runClear_inRange
  | takeNotice => exact Part.inRange_kept.request h _ fun _ k => Part.inRange_kept.answer (k.setNtc _) _ _
  | endOfQualification => exact onEndOfQualification_inRange h
  | startReadComplete => exact onStartReadComplete_inRange h
  | writeCompletion good => exact onWriteCompletion_inRange h good
  | eraseCompletion => exact onEraseCompletion_inRange h
  | agedTimerExpiry => exact Part.Kept.ite (fun _ => h.setNtc _) fun _ => h
  | lineGoesDominant n => exact onLineGoesDominant_inRange h hs n
  | _ => cases hmore

theorem LineUnit.FramesOk.tick {l : LineUnit} (h : l.FramesOk) : l.tick.FramesOk := by
  unfold LineUnit.tick
  split <;> exact h

theorem Journal.tick_eq (j : Journal) : j.tick = { j with elapsed := j.tick.elapsed } := by
  unfold Journal.tick
  split <;> rfl

/-- A millisecond counts; it claims nothing and forgets nothing. -/
theorem Part.InRange.tick {p : Part} (h : p.InRange) : p.tick.InRange := by
  have hcyc := p.tick_cyc_fields
  unfold Part.tick at *
  split
  · next hw =>
    simp only [if_pos hw] at hcyc
    obtain ⟨-, hprogram, -, -, hheat, hlane, -⟩ := hcyc
    refine ⟨?_, fun i => ?_, ?_, h.frames.tick⟩
    · rw [Journal.tick_eq]
      exact h.journal
    · exact (Roster.entry_tick_held _ _ _).trans_le (h.held i)
    · rw [Part.WantsInRange, hprogram, hheat, hlane]
      exact h.wants
  · exact Part.Kept.ite (fun _ => Part.inRange_kept.setSup h _) fun _ => h

/-- Settles O59: the claims invariant is being settled and being in range, and every command and every millisecond
keeps both. -/
theorem everyStepKeepsTheClaims : Obligations.EveryStepKeepsTheClaims := by
  intro s t hs h
  refine step_keeps (P := Part.ClaimsOk) (fun i p k => ?_) (fun p k => ?_) (fun p n k => ?_) hs h
  all_goals
    rw [Part.claimsOk_iff] at *
    obtain ⟨hsettled, hrange⟩ := k
  · exact ⟨effectOf_settled i p hsettled, effectOf_inRange i p hsettled hrange⟩
  · exact ⟨hsettled.tick, hrange.tick⟩
  · exact ⟨hsettled.congr rfl rfl rfl rfl rfl rfl rfl, Part.inRange_kept.setFreeCount hrange n⟩

end Sys2Proof.Machine

namespace Sys2Proof.Machine

/-! ### The notice queue and the saturating counters -/

/-- What every state has, also within an event: a queue of at most eight notices, and the counters in range. -/
structure Part.Bounded (p : Part) : Prop where
  length : p.ntc.queue.length ≤ queueLimit
  score : p.line.score ≤ 255
  wait : p.ctl.waitAge ≤ 15
  voids : p.ctl.takeVoids ≤ 4

/-- What every state has between events: besides, ATTN is low and the aged timer stopped while the queue is empty. -/
structure Part.QueueOk (p : Part) : Prop extends p.Bounded where
  low : p.ntc.queue = [] → p.ntc.attn = false ∧ p.ntc.aged.isRunning = false

theorem Part.queueOk_iff {p : Part} : p.QueueOk ↔ p.ntc.Ok ∧ p.CountersOk :=
  ⟨fun ⟨⟨hlen, hscore, hwait, hvoids⟩, hlow⟩ => ⟨⟨hlen, hlow⟩, hscore, hwait, hvoids⟩,
    fun ⟨⟨hlen, hlow⟩, hscore, hwait, hvoids⟩ => ⟨⟨hlen, hscore, hwait, hvoids⟩, hlow⟩⟩

/-- After an arrival the queue is not empty and holds at most eight notices, whatever ATTN was before (10, R171). -/
theorem NoticeQueue.Ok.arrive {q : NoticeQueue} (h : q.queue.length ≤ queueLimit) (trigger : Nat) (n : Notice) :
    (q.arrive trigger n).Ok := by
  unfold NoticeQueue.arrive
  split
  · next hroom => exact ⟨by simpa using hroom, by simp⟩
  · next hfull =>
    refine ⟨h, fun hempty => absurd hfull ?_⟩
    simp only at hempty
    simp [hempty, queueLimit]

theorem Part.settle_takeVoids (p : Part) : p.settle.ctl.takeVoids = p.ctl.takeVoids := by
  simp only [Part.settle, Part.settleWait_eq, Part.settleSend, Part.settleStarvation_ctl, Part.settleHeat_ctl,
    Part.settlePermit, Part.settleMotor_ctl, Part.settleOrder_ctl, Part.settleWants_ctl, Part.settleThermostat_ctl]

theorem Part.settle_waitAge_le (p : Part) : p.settle.ctl.waitAge ≤ p.ctl.waitAge := by
  simp only [Part.settle, Part.settleWait_eq, Part.settleSend, Part.settleStarvation_ctl, Part.settleHeat_ctl,
    Part.settlePermit, Part.settleMotor_ctl, Part.settleOrder_ctl, Part.settleWants_ctl, Part.settleThermostat_ctl]
  split
  · exact le_rfl
  · exact Nat.zero_le _

section Bounded
variable {p : Part} (h : p.Bounded)
include h

/-- A notice restores what a raised ATTN could have broken. -/
theorem Part.Bounded.notify (n : Notice) : (p.notify n).QueueOk := by
  obtain ⟨hlen, hlow⟩ := NoticeQueue.Ok.arrive h.length (triggerOf p.ctl.config) n
  exact ⟨⟨hlen, h.score, h.wait, h.voids⟩, hlow⟩

theorem Part.Bounded.setLine {l : LineUnit} (hscore : l.score ≤ max 255 p.line.score) :
    Part.Bounded { p with line := l } := by
  refine ⟨h.length, ?_, h.wait, h.voids⟩
  have := h.score
  show l.score ≤ 255
  omega

theorem Part.Bounded.settle : p.settle.Bounded := by
  refine ⟨?_, ?_, p.settle_waitAge_le.trans h.wait, p.settle_takeVoids.trans_le h.voids⟩
  · simpa using h.length
  · simpa using h.score

theorem Part.Bounded.requestCheckpoint : p.requestCheckpoint.Bounded := by
  refine ⟨?_, ?_, ?_, ?_⟩
  · simpa using h.length
  · simpa using h.score
  · simpa using h.wait
  · simpa using h.voids

end Bounded

theorem Part.bounded_of_start {p : Part} (hline : p.line = LineUnit.start) (hctl : p.ctl = Controller.start)
    (hntc : p.ntc = NoticeQueue.start) : p.Bounded := by
  refine ⟨?_, ?_, ?_, ?_⟩
  · rw [hntc]; decide
  · rw [hline]; decide
  · rw [hctl]; decide
  · rw [hctl]; decide

theorem Part.bounded_kept : Part.Kept Part.Bounded where
  setGate h _ := ⟨h.length, h.score, h.wait, h.voids⟩
  setSup h _ := ⟨h.length, h.score, h.wait, h.voids⟩
  setPort h _ := ⟨h.length, h.score, h.wait, h.voids⟩
  setInp h _ := ⟨h.length, h.score, h.wait, h.voids⟩
  setPins h _ := ⟨h.length, h.score, h.wait, h.voids⟩
  setFreeCount h _ := ⟨h.length, h.score, h.wait, h.voids⟩
  setLine := fun h _ _ _ hscore => h.setLine hscore
  setCyc h _ _ _ _ := ⟨h.length, h.score, h.wait, h.voids⟩
  setShed h _ := ⟨h.length, h.score, h.wait, h.voids⟩
  enterStanding h _ := ⟨h.length, h.score, h.wait, h.voids⟩
  notify h n := (h.notify n).toBounded
  requestCheckpoint h := h.requestCheckpoint
  settle h := h.settle
  start hline _ _ hctl hntc _ _ _ := Part.bounded_of_start hline hctl hntc

theorem Part.queueOk_kept : Part.Kept Part.QueueOk where
  setGate h g := ⟨Part.bounded_kept.setGate h.toBounded g, h.low⟩
  setSup h u := ⟨Part.bounded_kept.setSup h.toBounded u, h.low⟩
  setPort h x := ⟨Part.bounded_kept.setPort h.toBounded x, h.low⟩
  setInp h m := ⟨Part.bounded_kept.setInp h.toBounded m, h.low⟩
  setPins h x := ⟨Part.bounded_kept.setPins h.toBounded x, h.low⟩
  setFreeCount h n := ⟨Part.bounded_kept.setFreeCount h.toBounded n, h.low⟩
  setLine := fun h _ _ _ hscore => ⟨h.toBounded.setLine hscore, h.low⟩
  setCyc h _ hprogram hheat hlane := ⟨Part.bounded_kept.setCyc h.toBounded hprogram hheat hlane, h.low⟩
  setShed h b := ⟨Part.bounded_kept.setShed h.toBounded b, h.low⟩
  enterStanding h x := ⟨Part.bounded_kept.enterStanding h.toBounded x, h.low⟩
  notify h n := h.toBounded.notify n
  requestCheckpoint h := ⟨h.toBounded.requestCheckpoint, by simpa using h.low⟩
  settle h := ⟨h.toBounded.settle, by simpa using h.low⟩
  start hline _ _ hctl hntc _ _ _ :=
    ⟨Part.bounded_of_start hline hctl hntc, by rw [hntc]; exact fun _ => ⟨rfl, rfl⟩⟩

section Queue
variable {p : Part} (h : p.QueueOk)
include h

/-! #### The other blocks written -/

theorem Part.QueueOk.setRoster (r : Roster) : Part.QueueOk { p with roster := r } :=
  ⟨⟨h.length, h.score, h.wait, h.voids⟩, h.low⟩

theorem Part.QueueOk.setJrn (j : Journal) : Part.QueueOk { p with jrn := j } :=
  ⟨⟨h.length, h.score, h.wait, h.voids⟩, h.low⟩

theorem Part.QueueOk.setRes (x : Resume) : Part.QueueOk { p with res := x } :=
  ⟨⟨h.length, h.score, h.wait, h.voids⟩, h.low⟩

theorem Part.QueueOk.setCyc (c : Cycle) : Part.QueueOk { p with cyc := c } :=
  ⟨⟨h.length, h.score, h.wait, h.voids⟩, h.low⟩

theorem Part.QueueOk.setCycJrn (c : Cycle) (j : Journal) : Part.QueueOk { p with cyc := c, jrn := j } :=
  (h.setCyc c).setJrn j

theorem Part.QueueOk.setNtc {q : NoticeQueue} (hq : q.Ok) : Part.QueueOk { p with ntc := q } :=
  ⟨⟨hq.1, h.score, h.wait, h.voids⟩, hq.2⟩

theorem Part.QueueOk.setCtl {c : Controller} (hwait : c.waitAge ≤ max 15 p.ctl.waitAge)
    (hvoids : c.takeVoids ≤ max 4 p.ctl.takeVoids) : Part.QueueOk { p with ctl := c } := by
  have hw := h.wait
  have hv := h.voids
  refine ⟨⟨h.length, h.score, ?_, ?_⟩, h.low⟩
  · show c.waitAge ≤ 15
    omega
  · show c.takeVoids ≤ 4
    omega

/-! #### The configuration -/

/-- A trigger of at least 1 raises no ATTN on an empty queue (10, R172). -/
theorem Part.QueueOk.setConfig {c : Option Configuration} (hc : 1 ≤ triggerOf c) : (p.setConfig c).QueueOk := by
  refine Part.queueOk_kept.excessCheck ⟨⟨h.length, h.score, h.wait, h.voids⟩, fun hempty => ?_⟩
  have hempty' : p.ntc.queue = [] := hempty
  obtain ⟨hattn, haged⟩ := h.low hempty'
  refine ⟨?_, haged⟩
  have hnot : ¬ triggerOf c ≤ 0 := by omega
  simp [hattn, hempty', hnot]

theorem Part.runConfigure_queueOk (c : Configuration) : (p.runConfigure c).QueueOk := by
  have hrefused (code : ResultCode) := Part.queueOk_kept.answer h code []
  refine Part.Kept.ite (fun _ => hrefused _) fun _ => Part.Kept.ite (fun _ => hrefused _) fun _ =>
    Part.Kept.ite (fun _ => hrefused _) fun hrange => ?_
  obtain ⟨-, -, -, -, -, -, -, htrigger⟩ := not_not.mp hrange
  have hone : 1 ≤ triggerOf (some c) := by
    show 1 ≤ c.trigger
    omega
  exact Part.queueOk_kept.settle (Part.queueOk_kept.answer (Part.queueOk_kept.requestCheckpoint
    (Part.queueOk_kept.changeStanding (h.setConfig hone) _)) _ _)

theorem Part.runClear_queueOk : p.runClear.QueueOk := by
  have hconfig : (p.setConfig none).QueueOk := h.setConfig (by decide)
  refine Part.Kept.ite (fun _ => ?_) fun _ => Part.queueOk_kept.answer h _ _
  unfold Part.cleared
  dsimp only
  split
  · exact Part.queueOk_kept.settle (Part.queueOk_kept.holdRequest (hconfig.setCycJrn _ _) _)
  · have hstanding := Part.queueOk_kept.changeStanding hconfig .unconfigured
    exact Part.queueOk_kept.settle (Part.queueOk_kept.holdRequest (hstanding.setCycJrn _ _) _)

/-- A record's trigger may raise ATTN on the empty queue; the RESUME notice that follows fills it (09, R159). -/
theorem Part.QueueOk.resumeDecision (outage : Option Nat) (latch : Bool) : (p.resumeDecision outage latch).QueueOk := by
  have hres (x : Resume) := h.setRes x
  have hconfig (x : Resume) (r : Record) : (Part.takeCheckpointConfig { p with res := x } r).Bounded := by
    have k : (Part.setConfig { p with res := x } (some r.config)).Bounded :=
      Part.bounded_kept.excessCheck ⟨h.length, h.score, h.wait, h.voids⟩
    exact Part.Kept.ite (fun _ => Part.bounded_kept.enterStanding k _) fun _ => k
  unfold Part.resumeDecision
  dsimp only
  split
  · exact Part.queueOk_kept.inputsAtDecision
      (Part.queueOk_kept.requestCheckpoint (Part.queueOk_kept.notify (hres _) _))
  · next r _ =>
    refine Part.queueOk_kept.inputsAtDecision (Part.queueOk_kept.requestCheckpoint
      (Part.queueOk_kept.notifyEnded (Part.Bounded.notify ?_ _) r _))
    obtain ⟨hlen, hscore, hwait, hvoids⟩ := hconfig _ r
    exact ⟨hlen, hscore, hwait, hvoids⟩

theorem Part.QueueOk.finishStartRead : p.finishStartRead.QueueOk := by
  have k : p.completeStartRead.QueueOk :=
    Part.Kept.ite (fun _ => h.setJrn _) fun _ => Part.queueOk_kept.notify (h.setJrn _) _
  exact Part.Kept.ite (fun _ => Part.queueOk_kept.answer k _ _) fun _ => k

theorem Part.QueueOk.qualify : p.qualify.QueueOk :=
  Part.queueOk_kept.settle ((Part.queueOk_kept.setSup h p.sup.qualified).resumeDecision _ _)

theorem onEndOfQualification_queueOk : (onEndOfQualification p).QueueOk :=
  Part.Kept.ite (fun _ => Part.Kept.ite (fun _ => h.finishStartRead.qualify) fun _ => h.qualify) fun _ => h

theorem onStartReadComplete_queueOk : (onStartReadComplete p).QueueOk :=
  Part.Kept.ite (fun _ => Part.Kept.ite
    (fun _ => Part.queueOk_kept.settle (h.finishStartRead.resumeDecision _ _)) fun _ => h.finishStartRead) fun _ => h

/-! #### The journal -/

theorem onWriteCompletion_queueOk (good : Bool) : (onWriteCompletion good p).QueueOk := by
  have hread (n : SlotName) (r : Record) : (p.readBack n r good).QueueOk :=
    Part.Kept.ite (fun _ => h.setJrn _) fun _ => Part.queueOk_kept.notifyOwn (h.setJrn _) _ _
  have hnext {q : Part} (hq : q.QueueOk) : q.nextWrite.QueueOk := by
    unfold Part.nextWrite
    split
    · exact hq.setJrn _
    · exact Part.queueOk_kept.onQuiet (hq.setJrn _)
    · exact Part.queueOk_kept.onQuiet (hq.setJrn _)
  unfold onWriteCompletion
  split
  · split
    · exact hnext (hread _ _)
    · exact h
    · exact h
  · exact h

theorem onEraseCompletion_queueOk : (onEraseCompletion p).QueueOk := by
  unfold onEraseCompletion
  split
  · split
    · exact h.setJrn _
    · refine Part.queueOk_kept.onQuiet (Part.Kept.ite (fun _ => Part.queueOk_kept.answer ?_ _ _) fun _ => ?_)
      all_goals exact h.setJrn _
    · exact h
    · exact h
  · exact h

/-! #### Frames -/

theorem Part.QueueOk.startFrame : p.startFrame.QueueOk := by
  unfold Part.startFrame
  split
  · exact h
  · exact ⟨⟨h.length, h.score, h.wait, h.voids⟩, h.low⟩

theorem Part.QueueOk.applyLane (f : Frame) : (p.applyLane f).QueueOk := by
  unfold Part.applyLane
  split
  · exact h.setRoster _
  all_goals exact h

theorem Part.QueueOk.applyOwnNumber (f : Frame) : (p.applyOwnNumber f).QueueOk :=
  Part.queueOk_kept.excessCheck (h.applyLane f)

theorem Part.QueueOk.budgetMismatch (f : Frame) : (p.budgetMismatch f).QueueOk := by
  unfold Part.budgetMismatch
  dsimp only
  split
  · split
    · exact Part.queueOk_kept.notify (h.setRoster _) _
    · exact h
  · exact h

theorem Part.QueueOk.applyFrame (f : Frame) : (p.applyFrame f).QueueOk :=
  Part.queueOk_kept.excessCheck ((Part.QueueOk.budgetMismatch (by exact h.setRoster _) f).applyLane f)

theorem Part.QueueOk.ownAccepted (f : Frame) : (p.ownAccepted f).QueueOk := by
  have hzero {c : Prop} [Decidable c] {n k : Nat} : (if c then 0 else n) ≤ max k n := by split <;> omega
  unfold Part.ownAccepted
  dsimp only
  split
  · split
    · exact Part.queueOk_kept.changeStanding (by exact h.setCtl hzero hzero) _
    · exact h.setCtl hzero hzero
  · split
    · exact Part.queueOk_kept.laneGrant (by exact h.setCtl hzero hzero)
    · exact h.setCtl hzero hzero
  · exact ⟨⟨h.length, h.score, hzero.trans (max_le le_rfl h.wait), hzero.trans (max_le le_rfl h.voids)⟩, h.low⟩
  · exact h.setCtl hzero hzero
  · exact h.setCtl hzero hzero

theorem Part.QueueOk.ownVerdict (f : Frame) (voided : Bool) : (p.ownVerdict f voided).QueueOk :=
  Part.Kept.ite (fun _ => Part.Kept.ite
    (fun _ => h.setCtl (le_max_right _ _) ((Nat.min_le_left _ _).trans (le_max_left _ _))) fun _ => h)
    fun _ => (h.applyFrame f).ownAccepted f

theorem Part.QueueOk.verdict (a b : Bool) : (p.verdict a b).QueueOk := by
  have hidle (n : Nat) := Part.queueOk_kept.toIdle h n
  have hcourtesy (n : Nat) : Part.QueueOk { p with line := { p.line.toIdle n with courtesy := true } } :=
    Part.queueOk_kept.setLine h (.inr rfl) (.inr rfl) (le_max_right _ _)
  have hreceived : (Part.verdict.received a b p).QueueOk := by
    unfold Part.verdict.received
    split
    · exact hidle _
    · refine Part.Kept.ite (fun _ => Part.queueOk_kept.scoreError (hidle _)) fun _ => Part.queueOk_kept.scoreClean
        (Part.Kept.ite (fun _ => hidle _) fun _ => Part.Kept.ite (fun _ => ?_) fun _ => (hidle _).applyFrame _)
      exact Part.queueOk_kept.onDuplicateStation ((hidle _).applyOwnNumber _)
  unfold Part.verdict
  split
  · split
    · exact hidle _
    · exact (hcourtesy _).ownVerdict _ _
  · split
    · exact hidle _
    · exact (hcourtesy _).ownVerdict _ _
  · exact hreceived
  · exact hreceived
  · exact hidle _

theorem onClosingSpacerEnd_queueOk (bits : List Bit) : (onClosingSpacerEnd bits p).QueueOk := by
  have hline {l : LineUnit} (hl : l.score = p.line.score) : Part.QueueOk { p with line := l } :=
    ⟨h.toBounded.setLine (hl.trans_le (le_max_right _ _)), h.low⟩
  unfold onClosingSpacerEnd
  split
  · split
    · exact hline rfl
    · exact hline rfl
    · split
      · exact h
      · exact hline rfl
    · exact h
  · exact h

/-! #### The queue -/

omit h in
theorem NoticeQueue.Ok.taken {q : NoticeQueue} (h : q.Ok) : q.taken.Ok := by
  unfold NoticeQueue.taken
  split
  · exact h
  · exact ⟨Nat.zero_le _, fun _ => ⟨rfl, rfl⟩⟩
  · next hq =>
    obtain ⟨hlen, -⟩ := h
    rw [hq, List.length_cons] at hlen
    exact ⟨(Nat.le_succ _).trans hlen, nofun⟩

/-- The aged timer runs out only on a queue that is not empty. -/
theorem onAgedTimerExpiry_queueOk : (onAgedTimerExpiry p).QueueOk := by
  refine Part.Kept.ite (fun c => h.setNtc ⟨h.length, fun hempty => ?_⟩) fun _ => h
  obtain ⟨-, haged⟩ := h.low hempty
  obtain ⟨n, hn, -⟩ := Timer.isDue_iff.mp c.2
  simp [hn, Timer.isRunning] at haged

/-- Whatever the command, the queue and the counters stay in range. -/
theorem effectOf_queueOk (i : Instr) : (effectOf i p).QueueOk := by
  refine Part.queueOk_kept.effectOf h i fun hmore => ?_
  cases i with
  | transmissionStart => exact Part.Kept.ite (fun _ => h.startFrame) fun _ => h
  | startMarkRecognised b => exact Part.queueOk_kept.onStartMarkRecognised h (h.verdict true true) b
  | closingSpacerEnd bits => exact onClosingSpacerEnd_queueOk h bits
  | verdictSlotEnd a b => exact Part.Kept.ite (fun _ => Part.queueOk_kept.afterLine (h.verdict a b)) fun _ => h
  | laneSpacingExpiry => exact Part.Kept.ite (fun _ => Part.queueOk_kept.settle (h.setRoster _)) fun _ => h
  | entryAgedLost j =>
    exact Part.Kept.ite (fun _ => Part.queueOk_kept.settle (Part.queueOk_kept.notify (h.setRoster _) _)) fun _ => h
  | censusTimerExpiry =>
    refine Part.Kept.ite (fun _ => Part.queueOk_kept.settle (h.setCtl ?_ (le_max_right _ _))) fun _ => h
    dsimp only
    split <;> omega
  | configure b sp re li tr =>
    exact Part.queueOk_kept.request h _ fun _ hq => Part.runConfigure_queueOk hq _
  | beginCycle d st co w bu re =>
    refine Part.queueOk_kept.request h _ fun q hq => ?_
    have hrefused (code : ResultCode) := Part.queueOk_kept.answer hq code []
    refine Part.Kept.ite (fun _ => hrefused _) fun _ => Part.Kept.ite (fun _ => hrefused _) fun _ => ?_
    exact Part.queueOk_kept.settle (Part.queueOk_kept.answer (Part.queueOk_kept.changePhase (hq.setCyc _) _) _ _)
  | clear => exact Part.queueOk_kept.request h _ fun _ hq => Part.runClear_queueOk hq
  | takeNotice =>
    exact Part.queueOk_kept.request h _ fun q hq =>
      Part.queueOk_kept.answer (hq.setNtc (NoticeQueue.Ok.taken ⟨hq.length, hq.low⟩)) _ _
  | endOfQualification => exact onEndOfQualification_queueOk h
  | startReadComplete => exact onStartReadComplete_queueOk h
  | writeCompletion good => exact onWriteCompletion_queueOk h good
  | eraseCompletion => exact onEraseCompletion_queueOk h
  | agedTimerExpiry => exact onAgedTimerExpiry_queueOk h
  | lineGoesDominant n =>
    have k : Part.QueueOk { p with line := { p.line with recessive := 0 } } :=
      Part.queueOk_kept.setLine h (.inl rfl) (.inl rfl) (le_max_right _ _)
    exact Part.Kept.ite (fun _ => Part.Kept.ite (fun _ => k.startFrame) fun _ => k) fun _ => h
  | _ => cases hmore

theorem Part.QueueOk.tick : p.tick.QueueOk := by
  have haged : p.ntc.aged.tick.isRunning = p.ntc.aged.isRunning := by cases p.ntc.aged <;> rfl
  have hscore : p.line.tick.score = p.line.score := by unfold LineUnit.tick; split <;> rfl
  unfold Part.tick
  split
  · refine ⟨⟨h.length, hscore.trans_le h.score, h.wait, h.voids⟩, ?_⟩
    rw [haged]
    exact h.low
  · exact Part.Kept.ite (fun _ => Part.queueOk_kept.setSup h _) fun _ => h

end Queue

/-- Settles O58: every command and every millisecond keep the queue and the counters in range; within the resume
decision alone ATTN can be raised on an empty queue, and there a notice follows. -/
theorem everyStepKeepsQueueAndCounters : Obligations.EveryStepKeepsQueueAndCounters := by
  intro s t hq hc h
  exact Part.queueOk_iff.mp (step_keeps (P := Part.QueueOk) (fun i _ k => effectOf_queueOk k i) (fun _ k => k.tick)
    (fun _ n k => Part.queueOk_kept.setFreeCount k n) (Part.queueOk_iff.mpr ⟨hq, hc⟩) h)

end Sys2Proof.Machine

namespace Sys2Proof.Machine

/-! ### The line unit's commands -/

/-- A command leaves a state's queue alone, and of its part what its effect leaves. -/
theorem exec_eq_of_effect {i : Instr} {s : State} {q : Part} (h : effectOf i s.toPart = q) :
    exec i s = .next { s with toPart := q } := by rw [exec_eq_next, h]

/-- A command without effect. -/
theorem exec_eq_self {i : Instr} {s : State} (h : effectOf i s.toPart = s.toPart) : exec i s = .next s :=
  exec_eq_of_effect h

/-! #### Starting a frame -/

theorem Part.startFrame_of_offered {p : Part} {k : Kind} (h : p.offered = some k) : p.startFrame = { p with
    line := { p.line with
      state := .arbitrating
      role := .sender
      sent := some ⟨p.compose k, checkOf (p.compose k).coveredBits⟩
      received := none
      recessive := 0 }
    ctl := { p.ctl with unheard :=
      if p.ctl.standing = .active ∧ p.ctl.unheard = .stopped then .running 0 else p.ctl.unheard } } := by
  unfold Part.startFrame
  rw [h]
  rfl

theorem Part.startFrame_of_none {p : Part} (h : p.offered = none) : p.startFrame = p := by
  unfold Part.startFrame
  rw [h]

/-- Settles O5, by the kind on offer. -/
theorem transmissionStart : Obligations.TransmissionStart := by
  intro s hw hidle hcount hgap
  have hstart : effectOf .transmissionStart s.toPart = s.startFrame := if_pos ⟨hw, hidle, hcount, hgap⟩
  exact ⟨fun k hk => exec_eq_of_effect (hstart.trans (Part.startFrame_of_offered hk)),
    fun hn => exec_eq_self (hstart.trans (Part.startFrame_of_none hn)), fun _ => rfl⟩

/-- Settles O6: within the join window the edge is the own start, with the count restarted. -/
theorem edgeOnIdleLine : Obligations.EdgeOnIdleLine := by
  intro s r hw hidle
  have hedge : effectOf (.lineGoesDominant r) s.toPart =
      if s.line.wait - max r s.line.recessive ≤ 1 then
        Part.startFrame { s.toPart with line := { s.line with recessive := 0 } }
      else { s.toPart with line := { s.line with recessive := 0 } } := if_pos ⟨hw, hidle⟩
  refine ⟨fun k hleft hk => exec_eq_of_effect ?_, fun hleft => exec_eq_of_effect ?_⟩
  · refine (hedge.trans (if_pos hleft)).trans ?_
    exact Part.startFrame_of_offered (p := { s.toPart with line := { s.line with recessive := 0 } }) hk
  · rw [hedge]
    split
    · next hjoin =>
      obtain hlate | hnone := hleft
      · exact absurd hjoin (by unfold LineUnit.wait; omega)
      · exact Part.startFrame_of_none (p := { s.toPart with line := { s.line with recessive := 0 } }) hnone
    · rfl

/-- Settles O8: each kind's fields are those of `Part.compose`, and Table 3-2 is read phase by phase. -/
theorem composedFields : Obligations.ComposedFields := by
  intro p
  refine ⟨rfl, fun _ => rfl, ?_, ?_, ?_, ?_, ?_, ?_, ?_, ?_, ?_, rfl⟩
  · intro hs c hc
    simp [Part.compose, Part.ownBudget, hs, hc]
  · intro hs c hc
    simp [Part.compose, Part.ownBudget, hs, hc]
  · rintro added rfl
    rfl
  · intro u hu
    simp [Part.compose, Part.agingCode, hu]
  · intro h
    simp [Cycle.phaseClass, h]
  · rintro (h | ⟨h | h, ht⟩) <;> simp [Cycle.phaseClass, *]
  · rintro (h | ⟨h | h, ht⟩) <;> simp [Cycle.phaseClass, *]
  · rintro (h | h | h) <;> simp [Cycle.phaseClass, h]
  · intro h
    simp [Cycle.phaseClass, h]

/-- Settles O11: the check is a fold over the bits. -/
theorem checkRegister : Obligations.CheckRegister :=
  ⟨rfl, fun bits b => by rw [checkOf, List.foldl_append]; rfl⟩

/-! #### Arbitration, mismatches and start marks -/

/-- Settles O12. -/
theorem arbitration : Obligations.Arbitration :=
  fun _ hw hs => ⟨exec_eq_of_effect (if_pos ⟨hw, hs⟩), exec_eq_of_effect (if_pos ⟨hw, hs⟩)⟩

/-- Settles O13: both mismatches are taken in ARBITRATING and in SENDING, and split by whether the run grew into a start
mark. -/
theorem senderMismatch : Obligations.SenderMismatch := by
  intro s hw
  refine ⟨fun hs => ?_, fun hs => ?_⟩
  · have hloss (b : Bool) : effectOf (.payloadLoss b) s.toPart = if b = true then s.toPart.receiveNew.afterLine
        else (s.toPart.follow .payloadLost).onDuplicateStation.afterLine := if_pos ⟨hw, hs⟩
    exact ⟨exec_eq_of_effect ((hloss true).trans (if_pos rfl)),
      exec_eq_of_effect ((hloss false).trans (if_neg Bool.false_ne_true))⟩
  · have hmismatch (b : Bool) : effectOf (.interference b) s.toPart = if b = true then s.toPart.receiveNew.afterLine
        else (s.toPart.follow .interfered).rideCheck := if_pos ⟨hw, hs⟩
    exact ⟨exec_eq_of_effect ((hmismatch true).trans (if_pos rfl)),
      exec_eq_of_effect ((hmismatch false).trans (if_neg Bool.false_ne_true))⟩

theorem onVerdictSlotEnd_of_verdict {p : Part} (hw : p.works) (hs : p.line.state = .verdict) (a b : Bool) :
    onVerdictSlotEnd a b p = (p.verdict a b).afterLine := if_pos ⟨hw, hs⟩

end Sys2Proof.Machine

namespace Sys2Proof
open Machine

/-- Settles O14, by the line state; in VERDICT the own frame, and a received one whose slot the run is in, is voided as
a dominant slot voids it. -/
theorem startMark : Obligations.StartMark := by
  intro s b hw
  have heffect : effectOf (.startMarkRecognised b) s.toPart = _ := if_pos hw
  refine ⟨fun hs => ?_, fun hs => ?_, fun hs hr => ?_, fun hs hr => ?_, fun hs => ?_, fun hs hb hr => ?_,
    fun hs hv => ?_, fun hs => ?_⟩
  all_goals rw [hs] at heffect
  · exact exec_eq_of_effect heffect
  · exact exec_eq_of_effect heffect
  · exact exec_eq_of_effect (heffect.trans (congrArg Part.afterLine (if_neg hr)))
  · exact exec_eq_of_effect (heffect.trans (congrArg Part.afterLine (if_pos hr)))
  · exact exec_eq_of_effect heffect
  · refine exec_eq_of_effect (heffect.trans (if_neg ?_))
    rintro (h | h | h)
    · simp [hb] at h
    · obtain hr | hr := hr <;> simp [hr] at h
    · obtain hr | hr := hr <;> simp [hr] at h
  · refine ⟨{ s with toPart := (s.toPart.verdict true true).afterLine },
      exec_eq_of_effect (onVerdictSlotEnd_of_verdict hw hs true true), ?_⟩
    have htaken := heffect.trans (if_pos hv)
    generalize (s.toPart.verdict true true).afterLine = q at htaken
    by_cases hq : q.works
    · exact (exec_eq_of_effect (htaken.trans (if_pos hq))).trans (congrArg _ (if_pos hq).symm)
    · exact (exec_eq_of_effect (htaken.trans (if_neg hq))).trans (congrArg _ (if_neg hq).symm)
  · exact exec_eq_self heffect

end Sys2Proof

namespace Sys2Proof.Machine

/-- Settles O15. -/
theorem invalidKind : Obligations.InvalidKind :=
  fun _ _ hw hs hr hk => exec_eq_of_effect (if_pos ⟨decide_eq_true hk, hw, hs, hr⟩)

/-! #### The verdict slot and the score -/

/-- Settles O17, by the role: an interfered frame is voided whatever the slot shows. -/
theorem ownVerdict : Obligations.OwnVerdict := by
  intro s f a b hw hs hrole hsent line
  refine exec_eq_of_effect ((onVerdictSlotEnd_of_verdict hw hs a b).trans (congrArg Part.afterLine ?_))
  have hline : line = { s.line.toIdle (s.line.recessiveAfterSlot a b) with courtesy := true } := rfl
  rw [hline]
  obtain hr | hr := hrole
  · simp [Part.verdict, hr, hsent, Part.ownVerdict]
  · simp [Part.verdict, hr, hsent, Part.ownVerdict]

/-- A station that objects reads its own drive at both sample points (01, R20). -/
theorem LineUnit.recessiveAfterSlot_objects (l : LineUnit) (a b objects : Bool) :
    l.recessiveAfterSlot (a || objects) (b || objects) =
      if b = true ∨ objects = true then 0 else if a = true then 1 else min 19 (l.recessive + 2) := by
  cases objects <;> simp [LineUnit.recessiveAfterSlot]

/-- Settles O18: a receiver, also after payload loss, reads its own objection with the slot. -/
theorem receivedVerdict : Obligations.ReceivedVerdict := by
  intro s f a b error objects hw hs hrole hreceived p
  refine exec_eq_of_effect ((onVerdictSlotEnd_of_verdict hw hs a b).trans (congrArg Part.afterLine ?_))
  have hp : p = { s.toPart with
      line := s.line.toIdle (s.line.recessiveAfterSlot (a || objects) (b || objects)) } :=
    congrArg (fun n => { s.toPart with line := s.line.toIdle n }) (s.line.recessiveAfterSlot_objects a b objects).symm
  have hverdict : s.toPart.verdict a b = Part.verdict.received a b s.toPart := by
    obtain hr | hr := hrole <;> simp only [Part.verdict, hr]
  rw [hverdict, hp]
  simp only [Part.verdict.received, hreceived, Part.receivedVerdict, Bool.or_eq_true, or_assoc]
  split
  · rfl
  · split
    · rfl
    · split <;> rfl

section Score
variable {p : Part}

theorem Part.scoreError_of_deaf (h : p.ctl.standing = .deaf) : p.scoreError = p := if_pos h

theorem Part.scoreError_of_low (h : p.ctl.standing ≠ .deaf) (hlow : min 255 (p.line.score + 8) < 96) :
    p.scoreError = { p with line := { p.line with score := min 255 (p.line.score + 8) } } :=
  (if_neg h).trans (if_neg (Nat.not_le.mpr hlow))

theorem Part.scoreError_of_high (h : p.ctl.standing ≠ .deaf) (hhigh : 96 ≤ min 255 (p.line.score + 8)) :
    p.scoreError = Part.onScoreHigh { p with line := { p.line with score := min 255 (p.line.score + 8) } } :=
  (if_neg h).trans (if_pos hhigh)

theorem Part.scoreError_score (h : p.ctl.standing ≠ .deaf) :
    p.scoreError.line.score = min 255 (p.line.score + 8) := by
  by_cases hhigh : 96 ≤ min 255 (p.line.score + 8)
  · rw [Part.scoreError_of_high h hhigh, Part.onScoreHigh_line]
  · rw [Part.scoreError_of_low h (by omega)]

theorem Part.scoreClean_score : p.scoreClean.line.score = p.line.score - 1 := by
  unfold Part.scoreClean
  dsimp only
  split <;> rfl

/-- The standings that SCORE HIGH makes DEAF (03, R56). -/
theorem Part.onScoreHigh_of_sending (h : p.ctl.standing = .active ∨ p.ctl.standing = .listening ∨
    p.ctl.standing = .isolated) : p.onScoreHigh = p.faultStanding .deaf .deaf := if_pos (by tauto)

theorem Part.onScoreHigh_of_other (h : p.ctl.standing = .unconfigured ∨ p.ctl.standing = .barred ∨
    p.ctl.standing = .dark) : p.onScoreHigh = p := by
  refine if_neg ?_
  obtain h | h | h := h <;> simp [h]

end Score

/-- Settles O19, by the standing and by the two ends of the score. -/
theorem objectionScore : Obligations.ObjectionScore := by
  intro p
  refine ⟨Part.scoreError_score, Part.scoreError_of_deaf, Part.scoreClean_score, fun hs hhigh => ?_, fun hs => ?_,
    fun hs hlow => ?_, fun hs => ?_⟩
  · have hdeaf : p.ctl.standing ≠ .deaf := by obtain h | h | h := hs <;> simp [h]
    rw [Part.scoreError_of_high hdeaf (by omega)]
    exact Part.onScoreHigh_of_sending hs
  · have hdeaf : p.ctl.standing ≠ .deaf := by
      obtain h | h | h | ⟨h, -⟩ := hs
      · simp [h]
      · simp [h]
      · simp [h]
      · exact h
    by_cases hhigh : 96 ≤ min 255 (p.line.score + 8)
    · rw [Part.scoreError_of_high hdeaf hhigh]
      refine Part.onScoreHigh_of_other ?_
      obtain h | h | h | ⟨-, h⟩ := hs
      · exact .inl h
      · exact .inr (.inl h)
      · exact .inr (.inr h)
      · omega
    · exact Part.scoreError_of_low hdeaf (by omega)
  · have hzero : p.line.score - 1 = 0 := by omega
    refine (if_pos ⟨hzero, hs⟩).trans ?_
    rw [hzero]
  · refine if_neg ?_
    rintro ⟨hzero, hdeaf⟩
    obtain h | h := hs
    · exact h hdeaf
    · have hzero' : p.line.score - 1 = 0 := hzero
      omega

/-! #### Levels of the line -/

/-- Settles O20. -/
theorem lineLevels : Obligations.LineLevels := by
  intro s hw
  refine ⟨fun hs hcount => ?_, fun hs hgap hcount => ?_, fun hs => exec_eq_of_effect (if_pos ⟨hw, hs⟩), ?_⟩
  · rw [exec_eq_of_effect (i := .lineIdle) (if_pos ⟨hw, hs⟩), Nat.max_eq_left hcount]
  · rw [exec_eq_of_effect (i := .courtesyGapEnd) (if_pos ⟨hw, hs, hgap⟩), Nat.max_eq_left hcount]
  · rintro hs p rfl
    exact exec_eq_of_effect (if_pos ⟨hw, hs⟩)

end Sys2Proof.Machine

namespace Sys2Proof.Machine

/-! ### Frames written to the line and read from it -/

/-! #### Fields of bits -/

theorem numberOf_lt (bits : List Bit) : numberOf bits < 2 ^ bits.length := by
  induction bits with
  | nil => decide
  | cons b bits ih =>
    have hb : b.toNat ≤ 1 := Bool.toNat_le b
    have hm : b.toNat * 2 ^ bits.length ≤ 1 * 2 ^ bits.length := Nat.mul_le_mul_right _ hb
    rw [numberOf_cons, List.length_cons, pow_succ]
    omega

/-- A field shows the lowest bits of its number alone. -/
theorem bitsOf_mod (w n : Nat) : bitsOf w (n % 2 ^ w) = bitsOf w n := by
  rw [bitsOf_eq_map, bitsOf_eq_map]
  refine List.map_congr_left fun j hj => ?_
  have hlt : w - 1 - j < w := by have := List.mem_range.mp hj; omega
  simp [Nat.testBit_mod_two_pow, hlt]

/-- A run of bits is the bits of the number it spells. -/
theorem bitsOf_numberOf (bits : List Bit) : bitsOf bits.length (numberOf bits) = bits := by
  induction bits with
  | nil => rfl
  | cons b bits ih =>
    have hlow : bitsOf bits.length (numberOf (b :: bits)) = bits := by
      rw [← bitsOf_mod, numberOf_cons, Nat.mul_add_mod', Nat.mod_eq_of_lt (numberOf_lt bits), ih]
    have hhigh : (numberOf (b :: bits)).testBit bits.length = b := by
      rw [numberOf_cons, Nat.testBit_eq_decide_div_mod_eq, Nat.add_comm,
        Nat.add_mul_div_right _ _ (Nat.two_pow_pos _), Nat.div_eq_of_lt (numberOf_lt bits)]
      cases b <;> rfl
    rw [List.length_cons, bitsOf, hlow, hhigh]

theorem bitsOf_fieldOf {w : Nat} {bits : List Bit} (h : bits.length = w) : bitsOf w (fieldOf w bits).toNat = bits := by
  subst h
  rw [fieldOf, BitVec.toNat_ofNat, Nat.mod_eq_of_lt (numberOf_lt bits), bitsOf_numberOf]

/-! #### What a frame's bits are -/

theorem Frame.length_keyBits (f : Frame) : f.keyBits.length = 13 := by simp [Frame.keyBits]

theorem Frame.length_bodyBits (f : Frame) : f.body.bits.length = f.kind.bodyBits := by
  obtain ⟨u, a, st, body⟩ := f
  cases body <;> simp [Body.bits, Frame.kind, Kind.bodyBits]

theorem Frame.length_coveredBits (f : Frame) : f.coveredBits.length = 13 + f.kind.bodyBits := by
  rw [Frame.coveredBits, List.length_append, f.length_keyBits, f.length_bodyBits]

/-- Key, body and check with their spacers (01, R2, R11 to R15). -/
theorem Kind.wireLength_eq (k : Kind) :
    k.wireLength = (13 + k.bodyBits + 16) + (13 + k.bodyBits + 16 + 3) / 4 := by cases k <;> rfl

theorem Frame.length_wireBits (f : Frame) : f.composed.wireBits.length = f.kind.wireLength := by
  rw [SentFrame.wireBits, length_withSpacers, List.length_append, length_bitsOf, Kind.wireLength_eq]
  have hcovered : f.composed.frame.coveredBits.length = 13 + f.kind.bodyBits := f.length_coveredBits
  rw [hcovered]

theorem Kind.ofCode_code (k : Kind) : Kind.ofCode k.code = some k := by cases k <;> rfl

theorem Kind.code_of_ofCode {n : Nat} {k : Kind} (h : Kind.ofCode n = some k) : k.code = n := by
  unfold Kind.ofCode at h
  split at h <;> cases h <;> rfl

theorem Body.ofBits_bits (f : Frame) : Body.ofBits f.kind f.body.bits = f.body := by
  obtain ⟨u, a, st, body⟩ := f
  cases body <;> simp [Body.ofBits, Body.bits, Frame.kind, fieldOf_bitsOf, List.drop_append,
    List.take_of_length_le, List.drop_of_length_le]

/-! #### Reading a frame -/

/-- The frame of a kind that key and body bits spell (01, R16, R25). -/
def frameOfBits (k : Kind) (bits : List Bit) : Frame where
  urgency := fieldOf 2 ((bits.drop 3).take 2)
  aging := fieldOf 4 ((bits.drop 5).take 4)
  station := fieldOf 4 ((bits.drop 9).take 4)
  body := Body.ofBits k ((bits.drop 13).take k.bodyBits)

/-- What a receiver makes of the bits: the first three frame bits give the kind and with it the length, and the
frame's error is a check that is not the one over key and body, a spacer's fault, or a FORM condition. -/
theorem readFrame_eq_some_iff {bits : List Bit} {f : Frame} {error : Bool} :
    readFrame bits = some (f, error) ↔ ∃ k, Kind.ofCode (numberOf ((withoutSpacers bits).1.take 3)) = some k ∧
      bits.length = k.wireLength ∧ f = frameOfBits k (withoutSpacers bits).1 ∧
      error = (checkOf ((withoutSpacers bits).1.take (13 + k.bodyBits)) !=
          fieldOf 16 ((withoutSpacers bits).1.drop (13 + k.bodyBits)) || (withoutSpacers bits).2 || !f.formOk) := by
  unfold readFrame
  dsimp only
  cases hk : Kind.ofCode (numberOf ((withoutSpacers bits).1.take 3)) with
  | none => simp
  | some k =>
    simp only [Option.some.injEq, exists_eq_left']
    split
    · next hlen =>
      rw [Option.some.injEq, Prod.mk.injEq]
      constructor
      · rintro ⟨rfl, rfl⟩
        exact ⟨hlen, rfl, rfl⟩
      · rintro ⟨-, rfl, rfl⟩
        exact ⟨rfl, rfl⟩
    · next hlen => simp [hlen]

theorem Body.kind_ofBits (k : Kind) (u : BitVec 2) (a st : BitVec 4) (bits : List Bit) :
    (⟨u, a, st, Body.ofBits k bits⟩ : Frame).kind = k := by cases k <;> rfl

theorem kind_frameOfBits (k : Kind) (bits : List Bit) : (frameOfBits k bits).kind = k := Body.kind_ofBits ..

/-- A frame's own bits spell it, whatever follows them. -/
theorem frameOfBits_coveredBits (f : Frame) (rest : List Bit) : frameOfBits f.kind (f.coveredBits ++ rest) = f := by
  have hbits : f.coveredBits ++ rest = bitsOf 3 f.kind.code ++ (bitsOf 2 f.urgency.toNat ++
      (bitsOf 4 f.aging.toNat ++ (bitsOf 4 f.station.toNat ++ (f.body.bits ++ rest)))) := by
    simp only [Frame.coveredBits, Frame.keyBits, List.append_assoc]
  have hbody : ((f.coveredBits ++ rest).drop 13).take f.kind.bodyBits = f.body.bits := by
    rw [Frame.coveredBits, List.append_assoc, List.drop_left' f.length_keyBits, List.take_left' f.length_bodyBits]
  rw [frameOfBits, hbody, Body.ofBits_bits, hbits]
  simp [List.drop_append, List.drop_of_length_le, fieldOf_bitsOf]

theorem Body.bits_ofBits {k : Kind} {bits : List Bit} (h : bits.length = k.bodyBits) :
    (Body.ofBits k bits).bits = bits := by
  cases k with
  | dark => exact (List.eq_nil_of_length_eq_zero h).symm
  | drop | take =>
    simp only [Kind.bodyBits] at h
    simp only [Body.ofBits, Body.bits]
    rw [bitsOf_fieldOf (by simp [h]), bitsOf_fieldOf (by simp [h]), ← List.take_add, List.take_of_length_le h.le]
  | hold =>
    simp only [Kind.bodyBits] at h
    simp only [Body.ofBits, Body.bits]
    rw [bitsOf_fieldOf (by simp [h]), bitsOf_fieldOf (by simp [h]), bitsOf_fieldOf (by simp [h]),
      bitsOf_fieldOf (by simp [h]), ← List.take_add, ← List.take_add, ← List.take_add, List.take_of_length_le h.le]
  | lane =>
    simp only [Kind.bodyBits] at h
    simp only [Body.ofBits, Body.bits]
    rw [bitsOf_fieldOf (by simp [h]), List.take_of_length_le h.le]

/-- The frame that bits spell has those bits for key and body. -/
theorem coveredBits_frameOfBits {k : Kind} {bits : List Bit} (hk : Kind.ofCode (numberOf (bits.take 3)) = some k)
    (hlen : 13 + k.bodyBits ≤ bits.length) : (frameOfBits k bits).coveredBits = bits.take (13 + k.bodyBits) := by
  have hthree : (bits.take 3).length = 3 := by simp; omega
  have hcode : bitsOf 3 k.code = bits.take 3 := by
    have h := bitsOf_numberOf (bits.take 3)
    rwa [hthree, ← Kind.code_of_ofCode hk] at h
  have hbody : ((frameOfBits k bits).body).bits = (bits.drop 13).take k.bodyBits :=
    Body.bits_ofBits (by simp; omega)
  rw [Frame.coveredBits, Frame.keyBits, kind_frameOfBits, hbody, hcode, frameOfBits]
  dsimp only
  rw [bitsOf_fieldOf (by simp; omega), bitsOf_fieldOf (by simp; omega), bitsOf_fieldOf (by simp; omega),
    ← List.take_add, ← List.take_add, ← List.take_add, ← List.take_add]

/-- A receiver reads key, body and check of the bits between the spacers as they were composed (01, R16, R17). -/
theorem readFrame_wireBits (f : Frame) : readFrame f.composed.wireBits = some (f, !f.formOk) := by
  have hspacers : withoutSpacers f.composed.wireBits =
      (f.coveredBits ++ bitsOf 16 (checkOf f.coveredBits).toNat, false) := withoutSpacers_withSpacers _
  have hthree : (f.coveredBits ++ bitsOf 16 (checkOf f.coveredBits).toNat).take 3 = bitsOf 3 f.kind.code := by
    simp only [Frame.coveredBits, Frame.keyBits, List.append_assoc]
    exact List.take_left' (length_bitsOf _ _)
  have hcode : numberOf (bitsOf 3 f.kind.code) = f.kind.code := by
    rw [numberOf_bitsOf]
    cases f.kind <;> rfl
  rw [readFrame_eq_some_iff, hspacers]
  refine ⟨f.kind, ?_, f.length_wireBits, (frameOfBits_coveredBits f _).symm, ?_⟩
  · rw [hthree, hcode, Kind.ofCode_code]
  · simp [List.take_left' f.length_coveredBits, List.drop_left' f.length_coveredBits, fieldOf_bitsOf]

/-- Settles O10: reading undoes writing, field by field; the layouts are the highest-first bits of each field. -/
theorem receiverReadsWhatWasSent : Obligations.ReceiverReadsWhatWasSent := by
  refine ⟨fun f hf => by rw [readFrame_wireBits, hf]; rfl, fun u a st x y b k => ?_, fun f => ?_, bitsOf_eq_map,
    by decide, fun _ => rfl, fun i => ⟨?_, rfl⟩⟩
  · refine ⟨?_, ?_, ?_, ?_, ?_⟩ <;>
      simp [Frame.coveredBits, Frame.keyBits, Frame.kind, Kind.code, Body.bits, bitsOf,
        BitVec.getElem_eq_testBit_toNat, Nat.testBit]
  · exact ⟨rfl, rfl, f.length_keyBits, f.length_bodyBits, rfl, f.length_wireBits⟩
  · have hi := i.isLt
    rw [fieldOfStation, BitVec.toNat_ofNat, stationNumber]
    omega

end Sys2Proof.Machine

namespace Sys2Proof.Machine

/-! ### The end of the closing spacer -/

/-- One bit in five, and the closing one, is a spacer. -/
theorem length_withoutSpacers {bits : List Bit} (h : bits.length % 5 ≠ 1) :
    (withoutSpacers bits).1.length = bits.length - (bits.length + 4) / 5 := by
  fun_induction withoutSpacers bits with
  | case1 a b c d e rest ih =>
    have hrest : rest.length % 5 ≠ 1 := by simp only [List.length_cons] at h; omega
    simp only [List.length_cons, ih hrest]
    omega
  | case5 => exact absurd rfl h
  | case2 | case3 | case4 | case6 => simp

theorem Kind.wireLength_mod (k : Kind) : k.wireLength % 5 ≠ 1 := by cases k <;> decide

theorem length_withoutSpacers_of_kind {bits : List Bit} {k : Kind} (h : bits.length = k.wireLength) :
    (withoutSpacers bits).1.length = 13 + k.bodyBits + 16 := by
  rw [length_withoutSpacers (h ▸ k.wireLength_mod), h]
  cases k <;> rfl

/-- The check read is the one computed when its bits are. -/
theorem checkOf_ne_fieldOf_iff {c : BitVec 16} {bits : List Bit} (h : bits.length = 16) :
    (c != fieldOf 16 bits) = true ↔ bits ≠ bitsOf 16 c.toNat := by
  rw [bne_iff_ne, ne_eq, ne_eq, not_iff_not]
  constructor
  · rintro rfl
    exact (bitsOf_fieldOf h).symm
  · rintro rfl
    exact (fieldOf_bitsOf 16 c).symm

/-- What a receiver reads is on the line between the spacers, and its error is one of the check, of a spacer or of
FORM (01, R2, R16, R17, R19). -/
theorem readFrame_places {bits : List Bit} {f : Frame} {error : Bool} (h : readFrame bits = some (f, error)) :
    bits.length = f.kind.wireLength ∧
    (bitsBetweenSpacers bits).take (13 + f.kind.bodyBits) = f.coveredBits ∧
    (error = true ↔
      (∃ j, IsSpacer bits.length (j + 1) ∧ j + 1 < bits.length ∧ bits.getD (j + 1) true = bits.getD j true) ∨
      (bitsBetweenSpacers bits).drop (13 + f.kind.bodyBits) ≠ bitsOf 16 (checkOf f.coveredBits).toNat ∨
      f.formOk = false) := by
  obtain ⟨k, hk, hlen, rfl, rfl⟩ := readFrame_eq_some_iff.mp h
  obtain ⟨hbetween, hspacer⟩ := withoutSpacers_places bits (hlen ▸ k.wireLength_mod)
  have hcount := length_withoutSpacers_of_kind hlen
  have hcovered := coveredBits_frameOfBits hk (by omega)
  rw [← hbetween, ← hspacer, kind_frameOfBits, hcovered]
  refine ⟨hlen, rfl, ?_⟩
  have hcheck : ((withoutSpacers bits).1.drop (13 + k.bodyBits)).length = 16 := by
    rw [List.length_drop, hcount]
    omega
  rw [Bool.or_eq_true, Bool.or_eq_true, checkOf_ne_fieldOf_iff hcheck, Bool.not_eq_true']
  tauto

theorem trailingRecessive_append_replicate (bits : List Bit) (n : Nat) :
    trailingRecessive (bits ++ List.replicate n true) = n + trailingRecessive bits := by
  unfold trailingRecessive
  induction n with
  | zero => simp
  | succ n ih => simp_all [List.replicate_succ', ← List.append_assoc]; omega

/-- Settles O16. -/
theorem closingSpacer : Obligations.ClosingSpacer := by
  refine ⟨fun bits f error h => readFrame_places h,
    fun u a st x y b c => ⟨formOk_dark .., formOk_drop .., formOk_hold .., formOk_take .., formOk_lane ..⟩,
    fun bits n => ⟨?_, ?_⟩, fun s bits hw hlen => ?_⟩
  · rw [List.append_cons, trailingRecessive_append_replicate]
    simp [trailingRecessive]
  · exact trailingRecessive_append_replicate [] n
  · have heffect : effectOf (.closingSpacerEnd bits) s.toPart = _ := if_pos ⟨decide_eq_true hlen, hw⟩
    refine ⟨fun hs => ?_, fun hs hr f error hread => ?_, fun hs hr => ?_, fun hs hr hread => ?_⟩
    · rw [hs] at heffect
      exact exec_eq_of_effect heffect
    · rw [hs, hread] at heffect
      obtain hr | hr := hr <;> rw [hr] at heffect <;> exact exec_eq_of_effect heffect
    · rw [hs, hr] at heffect
      exact exec_eq_of_effect heffect
    · rw [hs, hread] at heffect
      obtain hr | hr := hr <;> rw [hr] at heffect <;> exact exec_eq_self heffect

end Sys2Proof.Machine

namespace Sys2Proof.Machine

/-! ### The entry of a frame's sender -/

section AppliedFrame
variable (p : Part) (f : Frame)

theorem Part.applyLane_entry (j : Station) : (p.applyLane f).roster.entry j = p.roster.entry j := by
  unfold Part.applyLane
  split <;> rfl

theorem Part.budgetMismatch_entry_ne {j : Station} (hj : j ≠ stationOfField f.station) :
    (p.budgetMismatch f).roster.entry j = p.roster.entry j := by
  unfold Part.budgetMismatch
  split
  · dsimp only
    split
    · exact Roster.entry_withEntry_ne _ _ hj
    · rfl
  · rfl

theorem Part.budgetMismatch_of_no_config (h : p.ctl.config = none) : p.budgetMismatch f = p := by
  unfold Part.budgetMismatch
  rw [h]
  split <;> simp_all

/-- Lane record and excess check leave the entries alone. -/
theorem Part.applyFrame_entry (j : Station) : (p.applyFrame f).roster.entry j =
    (Part.budgetMismatch { p with
      roster := p.roster.withEntry (stationOfField f.station)
        ((p.roster.entry (stationOfField f.station)).applied f.body) } f).roster.entry j := by
  rw [Part.applyFrame, Part.excessCheck_roster, Part.applyLane_entry]

theorem Part.applyFrame_entry_ne {j : Station} (hj : j ≠ stationOfField f.station) :
    (p.applyFrame f).roster.entry j = p.roster.entry j := by
  rw [Part.applyFrame_entry, Part.budgetMismatch_entry_ne _ _ hj]
  exact Roster.entry_withEntry_ne _ _ hj

end AppliedFrame

section SenderEntry
variable (p : Part) (u : BitVec 2) (a st : BitVec 4)

/-- Only a HOLD declares a budget. -/
theorem Part.applyFrame_entry_self {body : Body} (h : ∀ x y b c, body ≠ .hold x y b c) :
    (p.applyFrame ⟨u, a, st, body⟩).roster.entry (stationOfField st) =
      (p.roster.entry (stationOfField st)).applied body := by
  have hbudget (q : Part) : q.budgetMismatch ⟨u, a, st, body⟩ = q := by
    cases body with
    | hold x y b c => exact absurd rfl (h x y b c)
    | dark | drop | take | lane => rfl
  rw [Part.applyFrame_entry, hbudget]
  exact Roster.entry_withEntry_self ..

theorem Part.budgetMismatch_hold_entry {k : Configuration} (hk : p.ctl.config = some k) (x y : BitVec 2) (b : BitVec 5)
    (c : BitVec 3) :
    (p.budgetMismatch ⟨u, a, st, .hold x y b c⟩).roster.entry (stationOfField st) =
      { p.roster.entry (stationOfField st) with
        mismatch := (p.roster.entry (stationOfField st)).mismatch ||
          decide (stationOfField st ≠ p.station ∧ b.toNat + 1 ≠ k.budget) } := by
  simp only [Part.budgetMismatch, hk]
  split
  · next hnew =>
    obtain ⟨hother, hbudget, -⟩ := hnew
    simp [hother, hbudget]
  · next hknown =>
    have hsame : ((p.roster.entry (stationOfField st)).mismatch ||
        decide (stationOfField st ≠ p.station ∧ b.toNat + 1 ≠ k.budget)) =
        (p.roster.entry (stationOfField st)).mismatch := by
      by_cases hm : (p.roster.entry (stationOfField st)).mismatch = true
      · simp [hm]
      · simp_all
    rw [hsame]

end SenderEntry

/-- Settles O22. -/
theorem appliedEntry : Obligations.AppliedEntry := by
  intro p u a st j
  refine ⟨fun body hj => p.applyFrame_entry_ne _ hj, p.applyFrame_entry_self u a st nofun,
    fun x y => p.applyFrame_entry_self u a st nofun, fun x y => p.applyFrame_entry_self u a st nofun,
    fun x => p.applyFrame_entry_self u a st nofun, fun x h b c _ _ => ?_, fun f => ⟨rfl, rfl, ?_⟩, rfl,
    fun e => ⟨rfl, fun _ _ => rfl, fun _ _ => rfl, fun _ => rfl, fun _ _ _ _ => rfl⟩⟩
  · rw [Part.applyFrame_entry]
    cases hk : p.ctl.config with
    | none =>
      rw [Part.budgetMismatch_of_no_config _ _ (by exact hk)]
      dsimp only
      rw [Roster.entry_withEntry_self, Bool.or_false]
      rfl
    | some k =>
      rw [Part.budgetMismatch_hold_entry _ u a st (by exact hk)]
      dsimp only
      rw [Roster.entry_withEntry_self]
      rfl
  · unfold Part.applyLane Part.spacing
    cases f.body with
    | lane x => cases p.ctl.config <;> rfl
    | dark | drop | hold | take => rfl

end Sys2Proof.Machine

namespace Sys2Proof.Machine

/-! ### Exchanges on the appliance port -/

section Exchanges
variable {p : Part} (n : Nat) (run : Part → Part)

theorem Part.exchange_of_free (hw : p.works) (hx : p.port.state ≠ .executing) :
    p.exchange n run = run (p.receiving n) := (if_pos hw).trans (if_neg hx)

theorem Part.exchange_of_busy (hw : p.works) (hx : p.port.state = .executing) :
    p.exchange n run = { p with port := { p.port with sdo := 4 :: zeroBytes (n - 1) } } :=
  (if_pos hw).trans (if_pos hx)

theorem Part.request_of_free (hw : p.works) (hx : p.port.state ≠ .executing) : p.request n run = run (p.taking n) :=
  Part.exchange_of_free n _ hw hx

end Exchanges

/-! #### What a new configuration leaves -/

theorem Part.excessCheck_ctl (p : Part) : p.excessCheck.ctl = { p.ctl with shed := p.excessCheck.ctl.shed } := by
  unfold Part.excessCheck Part.onExcess
  split
  · rfl
  · split
    · split <;> rfl
    · rfl

theorem Part.setConfig_ctl (p : Part) (c : Option Configuration) :
    (p.setConfig c).ctl = { p.ctl with config := c, shed := (p.setConfig c).ctl.shed } := Part.excessCheck_ctl _

/-- The port has no part in the excess check. -/
theorem Part.setConfig_ntc_taking (p : Part) (n : Nat) (c : Option Configuration) :
    ((p.taking n).setConfig c).ntc = (p.setConfig c).ntc := by
  unfold Part.setConfig Part.excessCheck Part.onExcess Part.ownBudget
  dsimp only
  split
  · rfl
  · split
    · split <;> rfl
    · rfl

/-! #### CLEAR and STATION RESET -/

theorem Part.settle_standing (p : Part) : p.settle.ctl.standing = p.ctl.standing := by
  simp only [Part.settle, Part.settleWait_eq, Part.settleSend, Part.settleStarvation_ctl, Part.settleHeat_ctl,
    Part.settlePermit, Part.settleMotor_ctl, Part.settleOrder_ctl, Part.settleWants_ctl, Part.settleThermostat_ctl]

theorem Part.settle_program_outcome_phase (p : Part) : p.settle.cyc.program = p.cyc.program ∧
    p.settle.cyc.outcome = p.cyc.outcome ∧ p.settle.cyc.phase = p.cyc.phase := by
  rw [Part.settle_cyc, Part.settleWants_eq, Part.settleThermostat_cyc]
  exact ⟨rfl, rfl, rfl⟩

/-- An accepted CLEAR as one update of what the configuration's removal leaves. -/
theorem Part.cleared_eq {p q r : Part} (hq : q = p.setConfig none)
    (hr : r = if q.ctl.standing = .unconfigured then q else q.changeStanding .unconfigured) :
    p.cleared = Part.settle { r with
      cyc := { r.cyc with program := none, outcome := .none }
      jrn := r.jrn.cleared
      port := ⟨.executing, some .clear, [], p.port.sdo⟩ } := by
  have hport : r.port = p.port := by
    rw [hr, hq]
    split <;> simp
  subst hq hr
  rw [← hport]
  rfl

/-- What an accepted CLEAR leaves of each block (R144, R52). -/
theorem Part.cleared_blocks (p : Part) : p.cleared.ctl.config = none ∧ p.cleared.ctl.standing = .unconfigured ∧
    p.cleared.cyc.program = none ∧ p.cleared.cyc.outcome = .none ∧ p.cleared.cyc.phase = p.cyc.phase ∧
    p.cleared.jrn = p.jrn.cleared ∧
    p.cleared.ntc = (if p.ctl.standing = .unconfigured then (p.setConfig none).ntc
      else (p.setConfig none).ntc.arrive 1 ⟨.standing, p.station, p.cyc.phase, some 0⟩) ∧
    p.cleared.port = ⟨.executing, some .clear, [], p.port.sdo⟩ := by
  have hstanding : (p.setConfig none).ctl.standing = p.ctl.standing := by rw [Part.setConfig_ctl]
  have hconfig : (p.setConfig none).ctl.config = none := by rw [Part.setConfig_ctl]
  unfold Part.cleared Part.holdRequest
  simp only [Part.settle_config, Part.settle_standing, Part.settle_program_outcome_phase, Part.settle_jrn,
    Part.settle_ntc, Part.settle_port, hstanding]
  split
  · next h => simp [hconfig, hstanding, h]
  · next h =>
    simp [Part.changeStanding, Part.enterStanding, Part.notifyOwn, Part.notify, hconfig, triggerOf, Standing.code]

/-- What an accepted CLEAR leaves alone. -/
theorem Part.cleared_untouched (p : Part) : p.cleared.line = p.line ∧ p.cleared.roster = p.roster ∧
    p.cleared.sup = p.sup ∧ p.cleared.inp = p.inp ∧ p.cleared.pins = p.pins ∧ p.cleared.res = p.res ∧
    p.cleared.station = p.station := by
  unfold Part.cleared Part.holdRequest
  dsimp only
  split <;> simp

theorem stationNumber_stationOfStraps :
    ∀ straps : BitVec 4, stationNumber (stationOfStraps straps) = if straps = 0 then 16 else straps.toNat := by decide

theorem effectOf_stationReset {p : Part} (hw : p.works) (hx : p.port.state ≠ .executing) (straps : BitVec 4) :
    effectOf (.stationReset straps) p =
      Part.runStationReset { p.taking 1 with pins := { p.pins with straps := straps } } :=
  Part.request_of_free 1 (fun q => Part.runStationReset { q with pins := { q.pins with straps := straps } }) hw hx

theorem Part.runClear_of_mayClear {p : Part} (h : p.mayClear) : p.runClear = p.cleared := if_pos h

/-- Settles O37. -/
theorem clearAndStationReset : Obligations.ClearAndStationReset := by
  intro s straps hw hx
  have hclear : effectOf .clear s.toPart = Part.runClear (s.toPart.taking 1) := Part.request_of_free 1 _ hw hx
  have hreset := effectOf_stationReset hw hx straps
  refine ⟨fun h => exec_eq_of_effect (hclear.trans (if_neg h)),
    fun hpower hdecided hbarred hdark hidle hop hpending => ?_,
    fun hpower hdecided hbarred hdark hidle hop hpending q r hq hr => ?_, stationNumber_stationOfStraps straps,
    fun h => exec_eq_of_effect (hreset.trans (if_pos h)), fun hpower hdecided hidle hquiet => exec_eq_of_effect ?_,
    fun hpower hdecided hidle hquiet => exec_eq_of_effect ?_⟩
  · obtain ⟨hconfig, hstanding, hprogram, houtcome, hphase, hjrn, hntc, hport⟩ :=
      (s.toPart.taking 1).cleared_blocks
    obtain ⟨hline, hroster, hsup, hinp, hpins, hres, hstation⟩ := (s.toPart.taking 1).cleared_untouched
    rw [hidle] at hphase hntc
    rw [Part.setConfig_ntc_taking] at hntc
    have hmay : (s.toPart.taking 1).mayClear := ⟨hpower, hdecided, hbarred, hdark, hidle, hop, hpending⟩
    rw [Part.runClear_of_mayClear hmay] at hclear
    generalize (s.toPart.taking 1).cleared = q at *
    exact ⟨{ s with toPart := q }, exec_eq_of_effect hclear, hconfig, hstanding, hprogram, houtcome, hphase, hjrn,
      hntc, hport, hline, hroster, hsup, hinp, hpins, hres, hstation⟩
  · have hmay : (s.toPart.taking 1).mayClear := ⟨hpower, hdecided, hbarred, hdark, hidle, hop, hpending⟩
    exact exec_eq_of_effect (hclear.trans ((Part.runClear_of_mayClear hmay).trans (Part.cleared_eq hq hr)))
  · exact (hreset.trans (if_neg (not_not_intro ⟨hpower, hdecided, hidle⟩))).trans (if_neg hquiet)
  · exact (hreset.trans (if_neg (not_not_intro ⟨hpower, hdecided, hidle⟩))).trans (if_pos hquiet)

end Sys2Proof.Machine

namespace Sys2Proof.Machine

/-! ### The three reads -/

theorem Record.length_bytes (r : Record) : r.bytes.length = 31 := rfl

theorem Journal.newestRecord_of_record {j : Journal} {n : SlotName} {r : Record} (hn : j.newest = some n)
    (hr : j.slot n = .record r) : j.newestRecord = some r := by
  simp only [Journal.newestRecord, hn, hr]

theorem Journal.checkpointBytes_of_none {j : Journal} (h : j.newest = none) :
    j.checkpointBytes = [0, 0, byte j.tornCount] ++ List.replicate 31 0 := by
  simp only [Journal.checkpointBytes, h]
  rfl

theorem Journal.checkpointBytes_of_record {j : Journal} {n : SlotName} {r : Record} (hn : j.newest = some n)
    (hr : j.slot n = .record r) : j.checkpointBytes = [1, byte n.code, byte j.tornCount] ++ r.bytes := by
  simp only [Journal.checkpointBytes, hn, Journal.newestRecord_of_record hn hr]
  rfl

theorem Journal.length_checkpointBytes (j : Journal) : j.checkpointBytes.length = 34 := by
  unfold Journal.checkpointBytes
  split <;> rfl

theorem length_laneBytes (l : Option LaneHolder) : (laneBytes l).length = 3 := by cases l <;> rfl

theorem Part.length_rosterBytes (p : Part) : p.rosterBytes.length = 101 := by
  simp only [Part.rosterBytes, List.length_append, length_laneBytes]
  rfl

theorem SlotName.byte_code (n : SlotName) : byte n.code = if n = .a then 0 else 1 := by cases n <;> rfl

/-- Settles O38. -/
theorem reads : Obligations.Reads := by
  intro s hw hx
  refine ⟨exec_eq_of_effect ((Part.request_of_free 1 _ hw hx).trans ?_),
    exec_eq_of_effect (Part.request_of_free 1 _ hw hx), s.length_rosterBytes, rfl, s.jrn.length_checkpointBytes,
    fun h => exec_eq_of_effect ((Part.request_of_free 1 _ hw hx).trans (if_pos h)),
    fun h => exec_eq_of_effect ((Part.request_of_free 1 _ hw hx).trans (if_neg ?_)),
    Journal.checkpointBytes_of_none, fun n r hn hr => ?_, rfl, ?_, fun _ => rfl, fun _ => rfl, fun _ => rfl, rfl, rfl,
    rfl, rfl, rfl, rfl, rfl, rfl, fun _ => rfl⟩
  · simp only [Part.runReadStanding, Part.standingBytes, Part.answer]
    cases s.res.lastOutage <;> rfl
  · simp [h]
  · rw [Journal.checkpointBytes_of_record hn hr, SlotName.byte_code]
    simp [Record.bytes, Program.bytes, stationNumber, Record.flags]
  · refine congrArg₂ (· ++ ·) (congrArg₂ (· ++ ·) ?_ ?_) rfl
    · refine List.flatMap_congr fun i _ => ?_
      generalize s.roster.entry i = e
      obtain ⟨presence, standing, held, budget, phaseClass, sinceHeard, mismatch⟩ := e
      cases standing <;> cases phaseClass <;> rfl
    · cases s.roster.lane <;> rfl

end Sys2Proof.Machine

namespace Sys2Proof.Machine

/-! ### Other exchanges -/

theorem effectOf_unknownCommand {p : Part} {command : Byte} (hw : p.works) (hx : p.port.state ≠ .executing)
    (hnone : dataBytesOf command = none) (hfetch : command ≠ 0xFF) :
    effectOf (.unknownCommand command) p = { p with port := ⟨.replyReady, none, [5], zeroBytes 1⟩ } := by
  have hwf : (Instr.unknownCommand command).wellFormed = true :=
    Bool.and_eq_true_iff.mpr ⟨decide_eq_true hnone, decide_eq_true hfetch⟩
  exact (if_pos hwf).trans (Part.exchange_of_free 1 _ hw hx)

theorem effectOf_incompleteRequest {p : Part} {command : Byte} {n k : Nat} (hw : p.works)
    (hx : p.port.state ≠ .executing) (hk : dataBytesOf command = some k) (hn : n < k) :
    effectOf (.incompleteRequest command n) p = { p with port := ⟨.idle, none, [], zeroBytes (1 + n)⟩ } := by
  have hwf : (Instr.incompleteRequest command n).wellFormed = true := by
    simp [Instr.wellFormed, hk, hn]
  exact (if_pos hwf).trans (Part.exchange_of_free (1 + n) _ hw hx)

theorem effectOf_requestWhileBusy {p : Part} {n : Nat} (hw : p.works) (hx : p.port.state = .executing) (hn : 1 ≤ n) :
    effectOf (.requestWhileBusy n) p = { p with port := { p.port with sdo := 4 :: zeroBytes (n - 1) } } := by
  have hwf : (Instr.requestWhileBusy n).wellFormed = true := decide_eq_true hn
  exact (if_pos ⟨hwf, hx⟩).trans (Part.exchange_of_busy n _ hw hx)

theorem shiftedOut_singleton {b : Byte} {n : Nat} (hn : 1 ≤ n) : shiftedOut [b] n = b :: zeroBytes (n - 1) := by
  obtain ⟨m, rfl⟩ := Nat.exists_eq_add_of_le' hn
  simp [shiftedOut]

theorem dataBytesOf_eq (command : Byte) : dataBytesOf command =
    if command = 0x11 then some 5 else if command = 0x12 then some 7 else if command = 0x13 then some 1
    else if command ∈ ([0x14, 0x15, 0x16, 0x21, 0x22, 0x23, 0x24] : List Byte) then some 0 else none := by
  revert command
  decide

/-- A fetch with no reply waiting shifts out a result code in its place (R164). -/
theorem exec_replyFetch_of_effect {s : State} {n : Nat} {b : Byte} (hn : 1 ≤ n)
    (h : effectOf (.replyFetch n) s.toPart = { s.toPart with port := { s.port with sdo := shiftedOut [b] n } }) :
    exec (.replyFetch n) s = .next { s with port := { s.port with sdo := b :: zeroBytes (n - 1) } } := by
  rw [shiftedOut_singleton hn] at h
  exact exec_eq_of_effect h

/-- While EXECUTING a request is refused with BUSY, shifted out as its second byte is clocked (R165). -/
theorem exec_request_of_busy {i : Instr} {s : State} (hw : s.works) (hx : s.port.state = .executing) (n : Nat)
    (hi : ∃ run, ∀ p, effectOf i p = p.request n run) :
    exec i s = .next { s with port := { s.port with sdo := 4 :: zeroBytes (n - 1) } } := by
  obtain ⟨run, hrun⟩ := hi
  exact exec_eq_of_effect ((hrun s.toPart).trans (Part.exchange_of_busy n _ hw hx))

/-- The requests without data bytes are one command byte each. -/
theorem effectOf_eq_request {i : Instr}
    (hi : i ∈ ([.cancel, .clear, .readStanding, .readRoster, .readCheckpoint, .takeNotice] : List Instr)) :
    ∃ run, ∀ p, effectOf i p = p.request 1 run := by
  simp only [List.mem_cons, List.not_mem_nil, or_false] at hi
  obtain rfl | rfl | rfl | rfl | rfl | rfl := hi <;> exact ⟨_, fun _ => rfl⟩

/-! #### Bytes on SDO and SDI -/

theorem Port.sdoBit_eq (q : Port) (n : Nat) {k : Nat} (hk : k < 8) :
    q.sdoBit (8 * n + k) = (q.onSdo n).toNat.testBit (7 - k) := by
  have hbyte : (8 * n + k) / 8 = n := by omega
  have hbit : (8 * n + k) % 8 = k := by omega
  rw [Port.sdoBit, hbyte, hbit, bitsOf_eq_map]
  simp [hk]

/-- An exchange whose bytes a known command takes is that request, whatever follows. -/
theorem ofExchange_of_taken {straps : BitVec 4} {command : Byte} {taken : List Byte} (rest : List Byte)
    (hk : dataBytesOf command = some taken.length) :
    Instr.ofExchange false straps (command :: (taken ++ rest)) = Instr.ofRequest straps command taken := by
  refine ofExchange_request ?_ hk rfl
  rintro rfl
  cases hk

theorem ofExchange_clocked (busy : Bool) (straps : BitVec 4) (bytes : List Byte) {rest : List Bool}
    (h : rest.length < 8) : Instr.ofClocks busy straps
      ((bytes.flatMap fun b => [b[7], b[6], b[5], b[4], b[3], b[2], b[1], b[0]]) ++ rest) =
        Instr.ofExchange busy straps bytes := by
  simp only [Instr.ofClocks, bits_of_byte, bytesClocked_bits bytes rest h]

theorem Part.ready_of_not_works {p : Part} (h : ¬ p.works) (n : Nat) : p.ready = none ∧ p.readyWithin n = none := by
  have hready : p.ready = none := if_neg h
  simp [Part.readyWithin, hready]

theorem Part.readyWithin_succ {p : Part} (h : p.works) (n : Nat) : p.readyWithin (n + 1) = some false := by
  have hready : p.ready = some (decide (p.port.state = .replyReady)) := if_pos h
  simp [Part.readyWithin, hready]

theorem Part.not_works_iff {p : Part} : ¬ p.works ↔ p.sup.power = .off ∨ p.sup.power = .standby := by
  unfold Part.works
  cases p.sup.power <;> decide

/-- Settles O39: each exchange by the port's state, and Table 1-4 command byte by command byte. -/
theorem otherExchanges : Obligations.OtherExchanges := by
  refine ⟨fun s command n k hw => ⟨
      fun hnone hfetch hx => exec_eq_of_effect (effectOf_unknownCommand hw hx hnone hfetch),
      fun hk hn hx => exec_eq_of_effect (effectOf_incompleteRequest hw hx hk hn),
      fun hx hn => exec_eq_of_effect (effectOf_requestWhileBusy hw hx hn), fun hs hn => ?_, fun hs => ?_,
      fun hs hn => ?_, fun hs hn => ?_, fun hx i hi => exec_request_of_busy hw hx 1 (effectOf_eq_request hi),
      fun hx b sp re li tr dry st cool bu rest m w straps =>
        ⟨exec_request_of_busy hw hx 6 ⟨_, fun _ => rfl⟩, exec_request_of_busy hw hx 8 ⟨_, fun _ => rfl⟩,
          exec_request_of_busy hw hx 2 ⟨_, fun _ => rfl⟩, exec_request_of_busy hw hx 1
            ⟨fun q => Part.runStationReset { q with pins := { q.pins with straps := straps } }, fun _ => rfl⟩⟩⟩,
    fun p n run => ⟨fun hoff => Part.ready_of_not_works (Part.not_works_iff.mpr hoff) n,
      fun hw => ⟨if_pos hw, rfl, Part.readyWithin_succ hw n⟩,
      fun hw hx => ⟨Part.exchange_of_free n run hw hx, Part.request_of_free n run hw hx⟩⟩,
    fun q n => ⟨fun hn => ?_, fun hn => ?_, fun k hk => q.sdoBit_eq n hk⟩,
    fun busy straps bytes rest h => ofExchange_clocked busy straps bytes h,
    fun busy straps command data => ⟨dataBytesOf_eq command, rfl, rfl, fun hfetch => ?_, fun hfetch hnone => ?_,
      fun k hk hlt => ?_, fun b sp re li tr => ofExchange_of_taken (taken := [b, sp, re, li, tr]) data rfl,
      fun dry st cool w bu rest => ?_, fun m => ofExchange_of_taken (taken := [m]) data rfl,
      ofExchange_of_taken (taken := []) data rfl, ofExchange_of_taken (taken := []) data rfl,
      ofExchange_of_taken (taken := []) data rfl, ofExchange_of_taken (taken := []) data rfl,
      ofExchange_of_taken (taken := []) data rfl, ofExchange_of_taken (taken := []) data rfl,
      ofExchange_of_taken (taken := []) data rfl⟩⟩
  · have heffect : effectOf (.replyFetch n) s.toPart = _ := if_pos hw
    rw [hs] at heffect
    exact exec_eq_of_effect (heffect.trans (if_pos hn))
  · have heffect : effectOf (.replyFetch 0) s.toPart = _ := if_pos hw
    rw [hs] at heffect
    exact exec_eq_of_effect heffect
  · have heffect : effectOf (.replyFetch n) s.toPart = _ := if_pos hw
    rw [hs] at heffect
    exact exec_replyFetch_of_effect hn heffect
  · have heffect : effectOf (.replyFetch n) s.toPart = _ := if_pos hw
    rw [hs] at heffect
    exact exec_replyFetch_of_effect hn heffect
  · simp [Port.onSdo, hn]
  · simp [Port.onSdo, hn]
  · exact (if_neg hfetch).trans (if_pos rfl)
  · simp only [Instr.ofExchange, hnone, fetchByte, if_neg hfetch]
    rfl
  · have hfetch : command ≠ 0xFF := by
      rintro rfl
      cases hk
    simp only [Instr.ofExchange, hk, fetchByte, if_neg hfetch, if_pos hlt]
    rfl
  · have hwindow : some (.beginCycle dry st cool (byte (w.toNat / 256) ++ byte w.toNat) bu rest) =
        some (Instr.beginCycle dry st cool w bu rest) := by rw [byte_append_byte]
    exact (ofExchange_of_taken (taken := [dry, st, cool, byte (w.toNat / 256), byte w.toNat, bu, rest]) data
      rfl).trans hwindow

end Sys2Proof.Machine

namespace Sys2Proof.Machine

/-! ### Power states -/

theorem Part.resumeDecision_decided (p : Part) (o : Option Nat) (l : Bool) :
    (p.resumeDecision o l).res.decided = true := by
  unfold Part.resumeDecision
  dsimp only
  split <;> simp

/-- What the end of qualification leaves, whatever the decision (R120, R147). -/
theorem Part.qualify_blocks (p : Part) : p.qualify.sup = p.sup.qualified ∧ p.qualify.res.decided = true ∧
    p.qualify.pins = p.pins ∧ p.qualify.inp = p.inp := by
  simp [Part.qualify, Part.resumeDecision_decided]

theorem Timer.isDue_of_running {t : Timer} {n limit : Nat} (ht : t = .running n) (hn : limit ≤ n) :
    t.isDue limit = true := Timer.isDue_iff.mpr ⟨n, ht, hn⟩

theorem effectOf_endOfQualification {p : Part} {n : Nat} (hq : p.sup.power = .qualify)
    (ht : p.sup.qualification = .running n) (hn : 2000 ≤ n) :
    ∃ q : Part, effectOf .endOfQualification p = q.qualify ∧ q.sup = p.sup ∧ q.pins = p.pins ∧ q.inp = p.inp := by
  have hdue : p.sup.qualification.isDue qualificationLimit = true := Timer.isDue_of_running ht hn
  have heffect : effectOf .endOfQualification p =
      if p.jrn.startRead = true then p.finishStartRead.qualify else p.qualify := if_pos ⟨hq, hdue⟩
  split at heffect
  · exact ⟨p.finishStartRead, heffect, by simp⟩
  · exact ⟨p, heffect, rfl, rfl, rfl⟩

/-- The slots a backup collapse leaves (R140). -/
theorem Journal.cutOff_slots (j : Journal) :
    (j.operation = none → j.cutOff.slotA = j.slotA ∧ j.cutOff.slotB = j.slotB) ∧
    (∀ r, j.operation = some (.write .a r) ∨ j.operation = some (.erase .a) →
      j.cutOff.slotA = .torn ∧ j.cutOff.slotB = j.slotB) ∧
    (∀ r, j.operation = some (.write .b r) ∨ j.operation = some (.erase .b) →
      j.cutOff.slotA = j.slotA ∧ j.cutOff.slotB = .torn) := by
  refine ⟨fun h => ?_, fun r h => ?_, fun r h => ?_⟩
  · simp [Journal.cutOff, h]
  · obtain h | h := h <;> simp [Journal.cutOff, h, Journal.withSlot]
  · obtain h | h := h <;> simp [Journal.cutOff, h, Journal.withSlot]

/-- STANDBY is left by the RETURN path after a warm entry, and by the POWER path after a cold one (R131). -/
theorem Part.leaveStandby_blocks (p : Part) :
    p.leaveStandby.sup = { Supply.cold with
      outage := if p.sup.warm = true then p.sup.outage else none
      outagePart := if p.sup.warm = true then p.sup.outagePart else 0
      outageRunning := p.sup.warm && p.sup.outageRunning
      doorLatch := p.sup.warm && (p.sup.doorLatch || p.pins.level.door)
      warm := p.sup.warm } ∧
    p.leaveStandby.res = Resume.start (if p.sup.warm = true then .ret else .power) ∧
    p.leaveStandby = { p.startPath p.leaveStandby.res.path with sup := p.leaveStandby.sup } := by
  unfold Part.leaveStandby
  split
  · next h => simp [Part.enterSettleWarm, Part.startPath, Resume.start, h]
  · next h => simp [Part.enterSettleCold, Part.startPath, Resume.start, h, Supply.cold]

theorem effectOf_standbyMainsReturn {p : Part} (h : p.sup.power = .standby) (straps : BitVec 4) :
    effectOf (.standbyMainsReturn straps) p = Part.leaveStandby { p with pins := p.pins.powered straps } := if_pos h

theorem effectOf_backupCollapse {p : Part} (h : p.sup.power = .ride ∨ p.sup.power = .standby) :
    effectOf (.backupCollapse true) p = Part.collapse { p with pins := { p.pins with backupLow := true } } :=
  if_pos ⟨rfl, h⟩

theorem effectOf_backupCollapse_of_not {p : Part} {low : Bool}
    (h : ¬ (low = true ∧ (p.sup.power = .ride ∨ p.sup.power = .standby))) :
    effectOf (.backupCollapse low) p = { p with pins := { p.pins with backupLow := low } } := if_neg h

/-- A part that enters STANDBY with MAINS active leaves it as at a return (log 16). -/
theorem effectOf_standbyMainsReturn_of_mains {p : Part} (h : p.sup.power = .standby)
    (hmains : p.pins.level.mains = true) : effectOf (.standbyMainsReturn p.pins.straps) p = p.leaveStandby := by
  have hpins : p.pins.powered p.pins.straps = p.pins := by rw [Pins.powered, ← hmains]
  rw [effectOf_standbyMainsReturn h, hpins]

/-- A part that enters STANDBY with BACKUP LOW active collapses (log 16). -/
theorem effectOf_backupCollapse_of_low {p : Part} (h : p.sup.power = .ride ∨ p.sup.power = .standby)
    (hlow : p.pins.backupLow = true) : effectOf (.backupCollapse true) p = p.collapse := by
  rw [effectOf_backupCollapse h, ← hlow]

/-- Settles O48. -/
theorem powerSequence : Obligations.PowerSequence := by
  intro s straps n present down
  refine ⟨rfl, stationNumber_stationOfStraps straps,
    fun hp hs hn => exec_eq_of_effect (if_pos ⟨hp, Timer.isDue_of_running hs hn⟩),
    fun hp ht hn => ?_, fun hp ht hn => ?_,
    fun hp => ⟨_, exec_eq_of_effect (if_pos hp), rfl, rfl, rfl, rfl, rfl, rfl, rfl, rfl, rfl, rfl, rfl, rfl, rfl, rfl⟩,
    fun hp => ?_, fun hl => ?_, fun hp => exec_eq_of_effect (if_pos hp), fun hp => ?_, fun hr hp => ?_, ?_,
    fun hp => ?_⟩
  · obtain ⟨q, heffect, hsup, hpins, hinp⟩ := effectOf_endOfQualification hp ht hn
    obtain ⟨hqs, hqd, hqp, hqi⟩ := q.qualify_blocks
    refine ⟨_, exec_eq_of_effect heffect, ?_, hqd, hqp.trans hpins, hqi.trans hinp, rfl⟩
    rw [← hsup]
    exact hqs
  · have hdrop : effectOf .qualifyDrop s.toPart = s.toPart.enterStandby s.sup.warm :=
      if_pos ⟨hp, Timer.isDue_of_running ht hn⟩
    refine ⟨fun hlow hmains => exec_eq_of_effect (hdrop.trans ?_), fun hlow hmains => ?_, fun hlow => ?_⟩
    · have hlow' : ¬ s.pins.backupLow = true := by simp [hlow]
      have hmains' : ¬ s.pins.level.mains = true := by simp [hmains]
      exact (if_neg hlow').trans (if_neg hmains')
    · have hlow' : ¬ s.pins.backupLow = true := by simp [hlow]
      have hdown : effectOf .qualifyDrop s.toPart = down.leaveStandby :=
        hdrop.trans ((if_neg hlow').trans (if_pos hmains))
      have hreturn : effectOf (.standbyMainsReturn s.pins.straps) down = down.leaveStandby :=
        effectOf_standbyMainsReturn_of_mains rfl hmains
      rw [exec_eq_of_effect hdown, exec_eq_of_effect hreturn]
    · have hdown : effectOf .qualifyDrop s.toPart = down.collapse := hdrop.trans (if_pos hlow)
      have hcollapse : effectOf (.backupCollapse true) down = down.collapse :=
        effectOf_backupCollapse_of_low (.inr rfl) hlow
      rw [exec_eq_of_effect hdown, exec_eq_of_effect hcollapse]
  · have hreturn : effectOf (.standbyMainsReturn straps) s.toPart =
        Part.leaveStandby { s.toPart with pins := present } := effectOf_standbyMainsReturn hp straps
    obtain ⟨hsup, hres, hrest⟩ := Part.leaveStandby_blocks { s.toPart with pins := present }
    generalize Part.leaveStandby { s.toPart with pins := present } = q at *
    refine ⟨_, exec_eq_of_effect hreturn, hsup, hres, ?_⟩
    dsimp only
    rw [hrest]
    exact ⟨rfl, rfl, rfl, rfl, rfl, rfl, rfl, rfl, rfl, rfl, rfl, rfl⟩
  · have hstandby : s.sup.power ≠ .standby := by
      rintro h
      obtain h' | ⟨-, h' | h'⟩ := hl <;> simp [h] at h'
    have hlatches : s.sup.latches := by
      obtain h' | ⟨hwarm, h' | h'⟩ := hl <;> simp [Supply.latches, *]
    exact exec_eq_of_effect ((if_neg hstandby).trans (if_pos hlatches))
  · exact ⟨_, exec_eq_of_effect (effectOf_backupCollapse hp), rfl, rfl, rfl, rfl, rfl, rfl, rfl, rfl, rfl, rfl, rfl,
      rfl, rfl, rfl, rfl, s.jrn.cutOff_slots⟩
  · exact exec_eq_of_effect (effectOf_backupCollapse_of_not fun h => h.2.elim hr hp)
  · exact exec_eq_of_effect (effectOf_backupCollapse_of_not fun h => Bool.false_ne_true h.1)
  · have hoff : s.sup.power ≠ .standby := by simp [hp]
    exact exec_eq_of_effect (if_neg hoff)

end Sys2Proof.Machine

namespace Sys2Proof.Machine

/-! ### Nothing is taken in OFF and STANDBY -/

section Resting
variable {p : Part} (h : ¬ p.works)
include h

/-- A condition that only a working part meets. -/
theorem ite_of_not_works {c : Prop} [Decidable c] (hc : c → p.works) (q : Part) : (if c then q else p) = p :=
  if_neg fun k => h (hc k)

/-- A condition that the exchange puts to a command of its own. -/
theorem ite_exchange_of_not_works {c : Prop} [Decidable c] (n : Nat) (run : Part → Part) :
    (if c then p.exchange n run else p) = p := by rw [Part.exchange, if_neg h, ite_self]

end Resting

theorem Part.works_of_runs {p : Part} (h : p.engineRuns) : p.works := .inr (.inr (.inl h))

/-- What a part takes in OFF and STANDBY: the inputs its supply monitor watches, and the supply's own changes (R118,
R127, R128, R130, R131). -/
def takenAtRest : Instr → Prop
  | .inputChange _ _ | .doorLatchSet | .backupCollapse _ | .powerApplied _ | .standbyMainsReturn _ => True
  | _ => False

theorem effectOf_of_not_works {p : Part} (h : ¬ p.works) {i : Instr} (hi : ¬ takenAtRest i) : effectOf i p = p := by
  cases i with
  | inputChange | doorLatchSet | backupCollapse | powerApplied | standbyMainsReturn => exact absurd trivial hi
  | startMarkRecognised | tachPulse | writeCompletion | eraseCompletion | replyFetch | configure | beginCycle | trim |
    cancel | clear | stationReset | readStanding | readRoster | readCheckpoint | takeNotice => exact if_neg h
  | transmissionStart | arbitrationLost | payloadLoss | interference | verdictSlotEnd | lineIdle | courtesyGapEnd |
    lineStuck | stuckCleared | laneSpacingExpiry | entryAgedLost | listenTimerExpiry | censusTimerExpiry |
    standingTimerExpiry | heatMinOffElapsed | heatMinOnReached | thermostatGraceExpiry | motorMinOffElapsed |
    noRotation | rotationLost | startReadComplete | agedTimerExpiry | lineGoesDominant | arbitrationWon =>
    exact ite_of_not_works h And.left _
  | invalidKindAbandon => exact ite_of_not_works h (fun k => k.2.1) _
  | closingSpacerEnd => exact if_neg fun k => h k.2
  | endOfCooling | heatStarved | checkpointTimerExpiry | restExpiry | burstEnd =>
    exact ite_of_not_works h (fun k => Part.works_of_runs k.1) _
  | creditSecond => exact ite_of_not_works h (fun k => Part.works_of_runs k.1.1) _
  | windowExpiry =>
    exact (if_neg fun k => h (Part.works_of_runs k.1)).trans (if_neg fun k => h (Part.works_of_runs k.1))
  | mainsDeclaredAbsent => exact ite_of_not_works h (fun k => Part.works_of_runs k.1) _
  | qualifyDrop | endOfQualification => exact ite_of_not_works h (fun k => .inr (.inl k.1)) _
  | settleExpiry => exact ite_of_not_works h (fun k => .inl k.1) _
  | rideTimerExpiry => exact ite_of_not_works h (fun k => .inr (.inr (.inr k.1))) _
  | unknownCommand | incompleteRequest | requestWhileBusy => exact ite_exchange_of_not_works h _ _

theorem effectOf_inputChange_of_not_works {p : Part} (h : ¬ p.works) (x : Input) (b : Bool) :
    effectOf (.inputChange x b) p =
      Part.watchedInStandby { p with pins := { p.pins with level := p.pins.level.with x b } } x b :=
  if_neg fun k => h k.1

theorem Part.watchedInStandby_of_not {p : Part} {x : Input} {b : Bool} (h : ¬ (p.sup.power = .standby ∧ b = true)) :
    p.watchedInStandby x b = p := if_neg h

/-- The supply monitor watches DOOR and MAINS alone (R128). -/
theorem Part.watchedInStandby_of_unwatched {p : Part} {x : Input} (b : Bool) (hx : x = .exhaustHot ∨ x = .highLimit) :
    p.watchedInStandby x b = p := by
  unfold Part.watchedInStandby
  obtain rfl | rfl := hx <;> exact ite_self p

/-- Settles O49. -/
theorem offAndStandbyTakeNothingElse : Obligations.OffAndStandbyTakeNothingElse := by
  intro s hoff
  have hrest : ¬ s.works := Part.not_works_iff.mpr hoff
  refine ⟨fun i hinput hdoor hcollapse hpower hreturn => exec_eq_self (effectOf_of_not_works hrest ?_),
    fun x b t ht => ?_⟩
  · cases i with
    | inputChange x b => exact absurd rfl (hinput x b)
    | doorLatchSet => exact absurd rfl hdoor
    | backupCollapse b => exact absurd rfl (hcollapse b)
    | powerApplied k => exact absurd rfl (hpower k)
    | standbyMainsReturn k => exact absurd rfl (hreturn k)
    | _ => exact id
  · subst ht
    have hchange := effectOf_inputChange_of_not_works hrest x b
    refine ⟨fun h => exec_eq_of_effect (hchange.trans ?_), ?_, ?_⟩
    · obtain hp | hb | hx := h
      · exact Part.watchedInStandby_of_not fun k => by simp [hp] at k
      · exact Part.watchedInStandby_of_not fun k => by simp [hb] at k
      · exact Part.watchedInStandby_of_unwatched b hx
    · rintro hp rfl rfl
      exact exec_eq_of_effect (hchange.trans (if_pos ⟨hp, rfl⟩))
    · rintro hp rfl rfl
      rw [exec_eq_of_effect (hchange.trans (if_pos ⟨hp, rfl⟩)), exec_eq_of_effect (effectOf_standbyMainsReturn hp _)]
      rfl

end Sys2Proof.Machine

namespace Sys2Proof.Machine

/-! ### The state after reset -/

theorem State.reset_claimsOk : State.reset.ClaimsOk :=
  ⟨by decide, ⟨trivial, trivial, by decide⟩, by decide, ⟨nofun, by decide, nofun⟩, nofun, nofun⟩

theorem Roster.start_entry (i : Station) : Roster.start.entry i = {
    presence := .absent, declaredStanding := none, held := 0, declaredBudget := none, phaseClass := none,
    sinceHeard := 255000, mismatch := false } := by
  revert i
  decide

/-- Settles O55: every block's start values, and the invariants in them. -/
theorem startState : Obligations.StartState :=
  ⟨rfl, rfl, rfl, rfl, rfl, rfl, rfl, rfl, rfl, rfl, rfl, rfl, rfl, rfl, State.reset_claimsOk, by decide, by decide,
    rfl, Roster.start_entry, rfl, rfl, rfl, rfl, rfl, fun _ _ => rfl, rfl, rfl, fun _ => rfl, fun _ => rfl⟩

end Sys2Proof.Machine

namespace Sys2Proof.Machine

/-! ### What is due -/

section Due
variable {p : Part}

/-- The events of line unit, roster and standing controller (01, R5, R6; 02, R29, R42; 03, R53, R62, R64). -/
theorem Part.mem_groupDue {i : Instr} : i ∈ p.groupDue ↔
    (p.mayStart ∧ p.offered ≠ none ∧ i = .transmissionStart) ∨
    ((p.line.state = .idle ∧ p.line.courtesy = true ∧ 19 ≤ p.line.recessive) ∧ i = .courtesyGapEnd) ∨
    (p.roster.laneDue = true ∧ i = .laneSpacingExpiry) ∨
    (∃ j, j ≠ p.station ∧ (p.roster.entry j).agedOut = true ∧ i = .entryAgedLost j) ∨
    (p.ctl.standing = .listening ∧ p.ctl.listen.isDue listenLimit = true ∧ i = .listenTimerExpiry) ∨
    ((p.ctl.standing = .active ∨ p.ctl.standing = .isolated) ∧ p.ctl.census.isDue censusLimit = true ∧
      i = .censusTimerExpiry) ∨
    (p.ctl.standing = .active ∧ p.ctl.unheard.isDue standingLimit = true ∧ i = .standingTimerExpiry) := by
  simp only [Part.groupDue, List.mem_append, mem_dueIf, List.mem_map, List.mem_filter, mem_stations, true_and,
    Bool.and_eq_true, decide_eq_true_eq, Option.isSome_iff_ne_none, and_assoc, or_assoc, eq_comm (b := i)]

/-- The output gate's switching off and the queue's aged timer (06, R109, R110, R114, R115; 10, R173). -/
theorem Part.mem_gateDue {i : Instr} : i ∈ p.gateDue ↔
    (p.gate.heat1.on = true ∧ p.gate.heat1.turnOffPending = true ∧ heatMinOnLimit ≤ p.gate.heat1.minOn ∧
      i = .heatMinOnReached .one) ∨
    (p.gate.heat2.on = true ∧ p.gate.heat2.turnOffPending = true ∧ heatMinOnLimit ≤ p.gate.heat2.minOn ∧
      i = .heatMinOnReached .two) ∨
    (p.graceRuns ∧ graceLimit ≤ p.gate.grace ∧ i = .thermostatGraceExpiry) ∨
    (p.gate.watch = .confirming ∧ p.gate.rotation.isDue rotationLimit = true ∧ i = .noRotation) ∨
    (p.gate.watch = .running ∧ p.gate.rotation.isDue rotationLimit = true ∧ i = .rotationLost) ∨
    (p.ntc.aged.isDue agedLimit = true ∧ i = .agedTimerExpiry) := by
  simp only [Part.gateDue, List.mem_append, mem_dueIf, Bool.and_eq_true, decide_eq_true_eq, and_assoc, or_assoc]

/-- The cycle engine (04, R78, R80, R83, R92; 05, R95, R98, R99). -/
theorem Part.mem_cycleDue {i : Instr} : i ∈ p.cycleDue ↔
    (p.credited ∧ 1000 ≤ p.cyc.credit ∧ i = .creditSecond) ∨
    (p.cyc.phase = .cool ∧ p.cyc.cool.isDue = true ∧ i = .endOfCooling) ∨
    ((p.cyc.phase = .dry ∧ 0 < p.cyc.heatWant ∧ p.ownHeld = 0 ∧ p.cyc.starvationReported = false ∧
      starvationLimit ≤ p.cyc.starvation) ∧ i = .heatStarved) ∨
    (p.cyc.checkpointTimer.isDue checkpointLimit = true ∧ i = .checkpointTimerExpiry) ∨
    (p.cyc.phase = .rest ∧ 0 < p.cyc.window.seconds ∧ p.cyc.rest.isDue = true ∧ i = .restExpiry) ∨
    (p.cyc.phase = .burst ∧ p.cyc.burst.isDue = true ∧ i = .burstEnd) ∨
    ((p.cyc.phase = .rest ∨ p.cyc.phase = .burstWait ∨ p.cyc.phase = .burst) ∧ p.cyc.window.lastOver = true ∧
      i = .windowExpiry) := by
  simp only [Part.cycleDue, List.mem_append, mem_dueIf, Bool.and_eq_true, decide_eq_true_eq, and_assoc, or_assoc]

/-! #### Where an event is due -/

/-- The lists of due events. -/
inductive DueList where
  | supply
  | journal
  | group
  | gate
  | cycle
  | switchOn
  | never

/-- The list that an event can be due in. -/
def dueListOf : Instr → DueList
  | .settleExpiry | .endOfQualification | .qualifyDrop | .mainsDeclaredAbsent | .rideTimerExpiry => .supply
  | .startReadComplete | .writeCompletion _ | .eraseCompletion => .journal
  | .transmissionStart | .courtesyGapEnd | .laneSpacingExpiry | .entryAgedLost _ | .listenTimerExpiry |
    .censusTimerExpiry | .standingTimerExpiry => .group
  | .heatMinOnReached _ | .thermostatGraceExpiry | .noRotation | .rotationLost | .agedTimerExpiry => .gate
  | .creditSecond | .endOfCooling | .heatStarved | .checkpointTimerExpiry | .restExpiry | .burstEnd | .windowExpiry =>
    .cycle
  | .heatMinOffElapsed _ | .motorMinOffElapsed => .switchOn
  | _ => .never

/-- The events due in a list. -/
def Part.dueIn (p : Part) : DueList → List Instr
  | .supply => p.supplyDue
  | .journal => p.journalDue
  | .group => p.groupDue
  | .gate => p.gateDue
  | .cycle => if p.engineRuns then p.cycleDue else []
  | .switchOn => p.switchOnDue
  | .never => []

theorem Part.mem_dueIn_cycle {i : Instr} : i ∈ p.dueIn .cycle ↔ p.engineRuns ∧ i ∈ p.cycleDue := by
  show i ∈ (if p.engineRuns then p.cycleDue else []) ↔ _
  by_cases h : p.engineRuns
  · rw [if_pos h, and_iff_right h]
  · rw [if_neg h]
    exact ⟨nofun, fun k => absurd k.1 h⟩

theorem Part.dueListOf_eq_of_mem {d : DueList} {i : Instr} (h : i ∈ p.dueIn d) : dueListOf i = d := by
  cases d with
  | supply =>
    obtain ⟨-, -, rfl⟩ | ⟨-, -, rfl⟩ | ⟨-, -, rfl⟩ | ⟨-, -, rfl⟩ | ⟨-, -, rfl⟩ := Part.mem_supplyDue.mp h <;> rfl
  | journal => obtain ⟨-, -, rfl⟩ | ⟨-, -, rfl⟩ | ⟨-, -, rfl⟩ := Part.mem_journalDue.mp h <;> rfl
  | group =>
    obtain ⟨j, rfl⟩ | h := Part.eq_of_mem_groupDue h
    · rfl
    · fin_cases h <;> rfl
  | gate =>
    have h := Part.eq_of_mem_gateDue h
    fin_cases h <;> rfl
  | cycle =>
    have h := Part.eq_of_mem_cycleDue (Part.mem_dueIn_cycle.mp h).2
    fin_cases h <;> rfl
  | switchOn => obtain ⟨-, rfl⟩ | ⟨-, rfl⟩ | ⟨-, rfl⟩ := Part.mem_switchOnDue.mp h <;> rfl
  | never => cases h

theorem Part.mem_firstDue_iff_mem_dueIn (hw : p.works) {i : Instr} :
    i ∈ p.firstDue ↔ dueListOf i ≠ .switchOn ∧ i ∈ p.dueIn (dueListOf i) := by
  rw [Part.mem_firstDue, and_iff_right hw]
  constructor
  · intro h
    obtain ⟨d, hd, hi⟩ : ∃ d, d ≠ DueList.switchOn ∧ i ∈ p.dueIn d := by
      obtain h | h | h | h | h := h
      exacts [⟨.supply, nofun, h⟩, ⟨.journal, nofun, h⟩, ⟨.group, nofun, h⟩, ⟨.gate, nofun, h⟩,
        ⟨.cycle, nofun, Part.mem_dueIn_cycle.mpr h⟩]
    rw [Part.dueListOf_eq_of_mem hi]
    exact ⟨hd, hi⟩
  · rintro ⟨hd, h⟩
    generalize dueListOf i = d at hd h
    cases d with
    | supply => exact .inl h
    | journal => exact .inr (.inl h)
    | group => exact .inr (.inr (.inl h))
    | gate => exact .inr (.inr (.inr (.inl h)))
    | cycle => exact .inr (.inr (.inr (.inr (Part.mem_dueIn_cycle.mp h))))
    | switchOn => exact absurd rfl hd
    | never => cases h

/-- Any event that switches no output on is due in its own list. -/
theorem Part.mem_due_iff_mem_dueIn (hw : p.works) {i : Instr} {d : DueList} (hi : dueListOf i = d)
    (hd : d ≠ .switchOn) : i ∈ p.due ↔ i ∈ p.dueIn d := by
  subst hi
  rw [Part.mem_due_iff_mem_firstDue (by rintro n rfl; exact hd rfl) (by rintro rfl; exact hd rfl),
    Part.mem_firstDue_iff_mem_dueIn hw, and_iff_right hd]

/-- An event that switches an output on waits until no other event is due (log 1). -/
theorem Part.mem_due_iff_of_switchOn (hw : p.works) {i : Instr} (hi : dueListOf i = .switchOn) :
    i ∈ p.due ↔ i ∈ p.switchOnDue ∧ ∀ j ∈ p.due, dueListOf j = .switchOn := by
  by_cases hfirst : p.firstDue = []
  · have hdue : p.due = p.switchOnDue := if_pos ⟨hw, hfirst⟩
    rw [hdue]
    exact ⟨fun h => ⟨h, fun j hj => Part.dueListOf_eq_of_mem hj⟩, And.left⟩
  · have hdue : p.due = p.firstDue := if_neg fun k => hfirst k.2
    have hother {j : Instr} (hj : j ∈ p.firstDue) : dueListOf j ≠ .switchOn :=
      ((Part.mem_firstDue_iff_mem_dueIn hw).mp hj).1
    rw [hdue]
    obtain ⟨j, hj⟩ := List.exists_mem_of_ne_nil _ hfirst
    exact ⟨fun h => absurd hi (hother h), fun h => absurd (h.2 j hj) (hother hj)⟩

end Due

/-! #### The step of an empty queue -/

theorem step_of_nothing_due {s : State} (hp : s.pending = []) (hd : s.due = []) :
    step s = .next { s with toPart := s.tick } := by
  simp only [step, hp, State.idle, hd]

theorem step_of_due {s : State} (hp : s.pending = []) (hd : s.due ≠ []) :
    ∃ i ∈ s.due, step s = .next { s with pending := [i], freeCount := s.freeCount + 1 } := by
  have hstep : step s = .next s.idle := by simp only [step, hp]
  obtain ⟨c, rest, hpending, -⟩ | ⟨-, hnone, -⟩ | ⟨-, i, hi, ht⟩ := step_cases hstep
  · simp [hp] at hpending
  · exact absurd hnone hd
  · exact ⟨i, hi, hstep.trans (congrArg _ ht)⟩

/-- The output switches among the events. -/
theorem dueListOf_eq_switchOn_iff {i : Instr} : dueListOf i = .switchOn ↔
    i ∈ [Instr.heatMinOffElapsed .one, .heatMinOffElapsed .two, .motorMinOffElapsed] := by
  constructor
  · intro h
    cases i with
    | heatMinOffElapsed n => cases n <;> simp
    | motorMinOffElapsed => simp
    | _ => cases h
  · intro h
    fin_cases h <;> rfl

theorem Entry.agedOut_iff {e : Entry} : e.agedOut = true ↔ e.presence = .present ∧ 6000 ≤ e.sinceHeard :=
  decide_eq_true_iff

/-- Settles O2: each event is due where its own list says so, and an output switch when nothing else is due. -/
theorem stepOfAnEmptyQueue : Obligations.StepOfAnEmptyQueue := by
  refine ⟨fun s hp => ⟨step_of_nothing_due hp, step_of_due hp⟩, fun p => ⟨fun h => ?_, fun hw => ?_⟩⟩
  · have hfirst : p.firstDue = [] := if_neg h
    exact (if_neg fun k => h k.1).trans hfirst
  · have hsupply {i} (hi : dueListOf i = .supply) : i ∈ p.due ↔ i ∈ p.supplyDue :=
      Part.mem_due_iff_mem_dueIn hw hi nofun
    have hjournal {i} (hi : dueListOf i = .journal) : i ∈ p.due ↔ i ∈ p.journalDue :=
      Part.mem_due_iff_mem_dueIn hw hi nofun
    have hgroup {i} (hi : dueListOf i = .group) : i ∈ p.due ↔ i ∈ p.groupDue :=
      Part.mem_due_iff_mem_dueIn hw hi nofun
    have hgate {i} (hi : dueListOf i = .gate) : i ∈ p.due ↔ i ∈ p.gateDue :=
      Part.mem_due_iff_mem_dueIn hw hi nofun
    have hcycle {i} (hi : dueListOf i = .cycle) : i ∈ p.due ↔ p.engineRuns ∧ i ∈ p.cycleDue :=
      (Part.mem_due_iff_mem_dueIn hw hi nofun).trans Part.mem_dueIn_cycle
    refine ⟨(hgroup rfl).trans ?_, fun i => (hgroup rfl).trans ?_, (hgroup rfl).trans ?_, (hgroup rfl).trans ?_,
      (hgroup rfl).trans ?_, (hgroup rfl).trans ?_, (hgroup rfl).trans ?_, (hgate rfl).trans ?_, (hgate rfl).trans ?_,
      (hgate rfl).trans ?_, (hgate rfl).trans ?_, (hgate rfl).trans ?_, (hgate rfl).trans ?_, (hsupply rfl).trans ?_,
      (hsupply rfl).trans ?_, (hsupply rfl).trans ?_, (hsupply rfl).trans ?_, (hsupply rfl).trans ?_,
      (hcycle rfl).trans ?_, (hcycle rfl).trans ?_, (hcycle rfl).trans ?_, (hcycle rfl).trans ?_,
      (hcycle rfl).trans ?_, (hcycle rfl).trans ?_, (hcycle rfl).trans ?_, (hjournal rfl).trans ?_,
      (hjournal rfl).trans ?_, (exists_congr fun good => hjournal rfl).trans ?_,
      (Part.mem_due_iff_of_switchOn hw rfl).trans ?_, (Part.mem_due_iff_of_switchOn hw rfl).trans ?_,
      (Part.mem_due_iff_of_switchOn hw rfl).trans ?_, fun i hi => ?_⟩
    · simp [Part.mem_groupDue, Roster.laneDue_iff]
    · simp [Part.mem_groupDue, Entry.agedOut_iff]
    · simp [Part.mem_groupDue, Timer.isDue_iff, listenLimit]
    · simp [Part.mem_groupDue, Timer.isDue_iff, censusLimit]
    · simp [Part.mem_groupDue, Timer.isDue_iff, standingLimit]
    · simp [Part.mem_groupDue, Part.mayStart, hw, and_assoc]
    · simp [Part.mem_groupDue]
    · simp [Part.mem_gateDue, heatMinOnLimit]
    · simp [Part.mem_gateDue, heatMinOnLimit]
    · simp [Part.mem_gateDue, graceLimit, and_assoc]
    · simp [Part.mem_gateDue, Timer.isDue_iff, rotationLimit]
    · simp [Part.mem_gateDue, Timer.isDue_iff, rotationLimit]
    · simp [Part.mem_gateDue, Timer.isDue_iff, agedLimit]
    · simp [Part.mem_supplyDue, Timer.isDue_iff, Supply.settleLimit, warmSettleLimit, coldSettleLimit]
    · simp [Part.mem_supplyDue, Timer.isDue_iff, qualificationLimit]
    · simp [Part.mem_supplyDue, Timer.isDue_iff, absenceLimit]
    · simp [Part.mem_supplyDue, Timer.isDue_iff, absenceLimit]
    · simp [Part.mem_supplyDue, Timer.isDue_iff, rideLimit]
    · simp [Part.mem_cycleDue, Gate.runningIndication, and_assoc]
    · simp [Part.mem_cycleDue, starvationLimit, and_assoc]
    · simp [Part.mem_cycleDue, Timer.isDue_iff, checkpointLimit]
    · simp [Part.mem_cycleDue, Countdown.isDue_iff]
    · simp [Part.mem_cycleDue, Countdown.isDue_iff]
    · simp [Part.mem_cycleDue, Countdown.isDue_iff]
    · simp [Part.mem_cycleDue, Countdown.lastOver]
    · simp [Part.mem_journalDue, startReadLimit]
    · simp [Part.mem_journalDue, operationLimit]
    · simp [Part.mem_journalDue, operationLimit]
    · refine and_congr ?_ (forall₂_congr fun _ _ => dueListOf_eq_switchOn_iff)
      simp [Part.mem_switchOnDue, Timer.isDue_iff, heatMinOffLimit]
    · refine and_congr ?_ (forall₂_congr fun _ _ => dueListOf_eq_switchOn_iff)
      simp [Part.mem_switchOnDue, Timer.isDue_iff, heatMinOffLimit]
    · refine and_congr ?_ (forall₂_congr fun _ _ => dueListOf_eq_switchOn_iff)
      simp [Part.mem_switchOnDue, Timer.isDue_iff, motorMinOffLimit]
    · cases hd : dueListOf i with
      | switchOn => exact .inl (dueListOf_eq_switchOn_iff.mp hd)
      | supply =>
        obtain ⟨-, -, rfl⟩ | ⟨-, -, rfl⟩ | ⟨-, -, rfl⟩ | ⟨-, -, rfl⟩ | ⟨-, -, rfl⟩ :=
          Part.mem_supplyDue.mp ((hsupply hd).mp hi) <;> simp
      | journal =>
        obtain ⟨-, -, rfl⟩ | ⟨-, -, rfl⟩ | ⟨-, -, rfl⟩ := Part.mem_journalDue.mp ((hjournal hd).mp hi) <;> simp
      | group =>
        obtain hlost | hother := Part.eq_of_mem_groupDue ((hgroup hd).mp hi)
        · exact .inr (.inl hlost)
        · fin_cases hother <;> simp
      | gate =>
        have hgated := Part.eq_of_mem_gateDue ((hgate hd).mp hi)
        fin_cases hgated <;> simp
      | cycle =>
        have hcycled := Part.eq_of_mem_cycleDue ((hcycle hd).mp hi).2
        fin_cases hcycled <;> simp
      | never => cases (Part.mem_due_iff_mem_dueIn hw hd nofun).mp hi

end Sys2Proof.Machine

namespace Sys2Proof.Machine

/-! ### The roster's figures -/

theorem stations_eq_finRange : stations = List.finRange 16 := by decide

/-- The sixteen stations of the list are all there are. -/
theorem sum_map_stations (g : Station → Nat) : (stations.map g).sum = ∑ i : Station, g i := by
  rw [stations_eq_finRange, Fin.sum_univ_def]

theorem Roster.heldTotal_eq_sum (r : Roster) : r.heldTotal = ∑ i : Station, (r.entry i).counted := sum_map_stations _

/-- Of two budgets the least is one of them, and no greater than either. -/
theorem leastBudget_eq_some_iff {x y : Option Nat} {b : Nat} : leastBudget x y = some b ↔
    (x = some b ∨ y = some b) ∧ (∀ d ∈ x, b ≤ d) ∧ ∀ d ∈ y, b ≤ d := by
  cases x with
  | none =>
    have hleast : leastBudget none y = y := by cases y <;> rfl
    rw [hleast]
    constructor
    · rintro rfl
      simp
    · exact fun h => by simpa using h.1
  | some m =>
    cases y with
    | none =>
      show some m = some b ↔ _
      constructor
      · rintro ⟨⟩
        simp
      · exact fun h => by simpa using h.1
    | some n =>
      show some (min m n) = some b ↔ _
      simp only [Option.some.injEq, Option.mem_def, forall_eq']
      omega

/-- A number is at most the lesser of two budgets just when it is at most each of them. -/
theorem forall_mem_leastBudget {x y : Option Nat} {b : Nat} :
    (∀ d ∈ leastBudget x y, b ≤ d) ↔ (∀ d ∈ x, b ≤ d) ∧ ∀ d ∈ y, b ≤ d := by
  cases x <;> cases y <;> simp [leastBudget]

/-- The least budget of a list and one more. -/
theorem foldl_leastBudget_eq_some_iff {l : List (Option Nat)} {own : Option Nat} {b : Nat} :
    l.foldl leastBudget own = some b ↔
      (own = some b ∨ some b ∈ l) ∧ (∀ d ∈ own, b ≤ d) ∧ ∀ x ∈ l, ∀ d ∈ x, b ≤ d := by
  induction l generalizing own with
  | nil =>
    constructor
    · rintro rfl
      simp
    · exact fun h => by simpa using h.1
  | cons x l ih =>
    rw [List.foldl_cons, ih, leastBudget_eq_some_iff, forall_mem_leastBudget, List.forall_mem_cons, List.mem_cons,
      eq_comm (a := some b)]
    tauto

theorem Entry.countedBudget_eq_some_iff {e : Entry} {b : Nat} :
    e.countedBudget = some b ↔ e.presence = .present ∧ e.declaredBudget = some b := by
  simp [Entry.countedBudget]

/-- An entry bounds the effective budget by what it declares, while it is PRESENT. -/
theorem Entry.forall_mem_countedBudget {e : Entry} {b : Nat} :
    (∀ d ∈ e.countedBudget, b ≤ d) ↔ (e.presence = .present → ∀ d ∈ e.declaredBudget, b ≤ d) := by
  unfold Entry.countedBudget
  split
  · next hpresent => simp [hpresent]
  · next habsent => simp [habsent]

/-- The effective budget is the least of the own one and those the entries count (02, R31). -/
theorem Roster.effectiveBudget_eq_some_iff {r : Roster} {own : Option Nat} {b : Nat} :
    r.effectiveBudget own = some b ↔ (own = some b ∨ ∃ i, (r.entry i).countedBudget = some b) ∧
      (∀ d ∈ own, b ≤ d) ∧ ∀ i, ∀ d ∈ (r.entry i).countedBudget, b ≤ d := by
  simp only [Roster.effectiveBudget, foldl_leastBudget_eq_some_iff, List.mem_map, mem_stations, true_and,
    forall_exists_index, forall_apply_eq_imp_iff]

/-- Settles O21. -/
theorem derivedValues : Obligations.DerivedValues := by
  intro r own
  refine ⟨r.heldTotal_eq_sum, fun b => ?_, rfl⟩
  simp only [Roster.effectiveBudget_eq_some_iff, Entry.countedBudget_eq_some_iff, Entry.forall_mem_countedBudget]

end Sys2Proof.Machine

namespace Sys2Proof.Machine

/-! ### The shedding order and the walk along it -/

theorem Roster.mem_holdersOfGroup {r : Roster} {g : Nat} {i : Station} : i ∈ r.holdersOfGroup g ↔
    (r.entry i).presence = .present ∧ 0 < (r.entry i).held ∧ shedGroup (r.entry i).phaseClass = g := by
  simp [Roster.holdersOfGroup, mem_stations]

theorem shedGroup_eq_one_or_two_or_three (c : Option PhaseClass) :
    shedGroup c = 1 ∨ shedGroup c = 2 ∨ shedGroup c = 3 := by
  rcases c with _ | _ | _ | _ | _ | _ | _ <;> decide

theorem Roster.mem_shedOrder {r : Roster} {i : Station} :
    i ∈ r.shedOrder ↔ (r.entry i).presence = .present ∧ 0 < (r.entry i).held := by
  have hgroup := shedGroup_eq_one_or_two_or_three (r.entry i).phaseClass
  simp only [Roster.shedOrder, List.mem_append, Roster.mem_holdersOfGroup]
  tauto

/-- A station sheds before another: an earlier group, or the same one and a higher number (02, R48). -/
def Roster.ShedsBefore (r : Roster) (i j : Station) : Prop :=
  shedGroup (r.entry i).phaseClass < shedGroup (r.entry j).phaseClass ∨
    (shedGroup (r.entry i).phaseClass = shedGroup (r.entry j).phaseClass ∧ j < i)

theorem Roster.ShedsBefore.ne {r : Roster} {i j : Station} (h : r.ShedsBefore i j) : i ≠ j := by
  rintro rfl
  obtain h | ⟨-, h⟩ := h <;> exact lt_irrefl _ h

theorem pairwise_stations_reverse : stations.reverse.Pairwise (· > ·) := by decide

theorem Roster.pairwise_holdersOfGroup (r : Roster) (g : Nat) : (r.holdersOfGroup g).Pairwise r.ShedsBefore := by
  refine (pairwise_stations_reverse.filter _).imp_of_mem fun {i j} hi hj hlt => .inr ⟨?_, hlt⟩
  obtain ⟨-, -, hgi⟩ := Roster.mem_holdersOfGroup.mp hi
  obtain ⟨-, -, hgj⟩ := Roster.mem_holdersOfGroup.mp hj
  rw [hgi, hgj]

theorem Roster.shedsBefore_of_groups {r : Roster} {g k : Nat} (hlt : g < k) {i j : Station}
    (hi : i ∈ r.holdersOfGroup g) (hj : j ∈ r.holdersOfGroup k) : r.ShedsBefore i j := by
  obtain ⟨-, -, rfl⟩ := Roster.mem_holdersOfGroup.mp hi
  obtain ⟨-, -, rfl⟩ := Roster.mem_holdersOfGroup.mp hj
  exact .inl hlt

theorem Roster.pairwise_shedOrder (r : Roster) : r.shedOrder.Pairwise r.ShedsBefore := by
  refine List.pairwise_append.mpr ⟨List.pairwise_append.mpr ⟨r.pairwise_holdersOfGroup 1, r.pairwise_holdersOfGroup 2,
    fun i hi j hj => Roster.shedsBefore_of_groups (by decide) hi hj⟩, r.pairwise_holdersOfGroup 3, fun i hi j hj => ?_⟩
  obtain hi | hi := List.mem_append.mp hi
  · exact Roster.shedsBefore_of_groups (by decide) hi hj
  · exact Roster.shedsBefore_of_groups (by decide) hi hj

/-- The holders hold the whole held total: each stands in the order once. -/
theorem Roster.sum_held_shedOrder (r : Roster) : (r.shedOrder.map fun i => (r.entry i).held).sum = r.heldTotal := by
  have hnodup : r.shedOrder.Nodup := r.pairwise_shedOrder.imp Roster.ShedsBefore.ne
  calc (r.shedOrder.map fun i => (r.entry i).held).sum
      = (r.shedOrder.map fun i => (r.entry i).counted).sum := by
        refine congrArg List.sum (List.map_congr_left fun i hi => ?_)
        exact (if_pos (Roster.mem_shedOrder.mp hi).1).symm
    _ = ∑ i ∈ r.shedOrder.toFinset, (r.entry i).counted := (List.sum_toFinset _ hnodup).symm
    _ = ∑ i : Station, (r.entry i).counted := by
        refine Finset.sum_subset (Finset.subset_univ _) fun i _ hi => ?_
        rw [List.mem_toFinset, Roster.mem_shedOrder] at hi
        unfold Entry.counted
        split
        · next hpresent => exact Nat.eq_zero_of_not_pos fun hheld => hi ⟨hpresent, hheld⟩
        · rfl
    _ = r.heldTotal := r.heldTotal_eq_sum.symm

/-- The walk takes the shortest front part that comes to the excess. -/
theorem shedWalk_shortest (held : Station → Nat) {l : List Station} {excess : Nat} (hpos : 0 < excess)
    (hle : excess ≤ (l.map held).sum) :
    ∃ n, shedWalk held excess l = l.take n ∧ excess ≤ ((shedWalk held excess l).map held).sum ∧
      ∀ m, m < (shedWalk held excess l).length → (((shedWalk held excess l).take m).map held).sum < excess := by
  induction l generalizing excess with
  | nil => exact absurd hle (Nat.not_le.mpr hpos)
  | cons i rest ih =>
    rw [List.map_cons, List.sum_cons] at hle
    by_cases hlast : excess ≤ held i
    · have hwalk : shedWalk held excess (i :: rest) = [i] := congrArg (i :: ·) (if_pos hlast)
      rw [hwalk]
      refine ⟨1, rfl, hlast, fun m hm => ?_⟩
      obtain rfl : m = 0 := Nat.lt_one_iff.mp hm
      exact hpos
    · have hwalk : shedWalk held excess (i :: rest) = i :: shedWalk held (excess - held i) rest :=
        congrArg (i :: ·) (if_neg hlast)
      obtain ⟨n, hfront, hreached, hshort⟩ := ih (excess := excess - held i) (by omega) (by omega)
      rw [hwalk]
      refine ⟨n + 1, congrArg (i :: ·) hfront, ?_, fun m hm => ?_⟩
      · rw [List.map_cons, List.sum_cons]
        omega
      · cases m with
        | zero => exact hpos
        | succ m =>
          have hless := hshort m (Nat.lt_of_succ_lt_succ hm)
          rw [List.take_succ_cons, List.map_cons, List.sum_cons]
          omega

/-- Settles O26. -/
theorem shedOrder : Obligations.ShedOrder := by
  intro r
  refine ⟨fun c => ?_, fun i => Roster.mem_shedOrder, r.pairwise_shedOrder,
    fun excess hpos hle => shedWalk_shortest _ hpos (hle.trans_eq r.sum_held_shedOrder.symm)⟩
  rcases c with _ | _ | _ | _ | _ | _ | _ <;> rfl

end Sys2Proof.Machine

namespace Sys2Proof.Machine

/-! ### The lane record, the budget comparison and the conflict objections -/

section Applied
variable {p : Part} {f : Frame}

theorem Part.applyLane_of_lane {x : BitVec 2} (h : f.body = .lane x) : p.applyLane f =
    { p with roster := { p.roster with lane := some ⟨stationOfField f.station, p.spacing⟩ } } := by
  simp only [Part.applyLane, h]

theorem Part.applyLane_of_other (h : ∀ x, f.body ≠ .lane x) : p.applyLane f = p := by
  unfold Part.applyLane
  split
  · next x hlane => exact absurd hlane (h x)
  all_goals rfl

theorem Part.budgetMismatch_lane : (p.budgetMismatch f).roster.lane = p.roster.lane := by
  unfold Part.budgetMismatch
  split
  · dsimp only
    split <;> rfl
  · rfl

/-- The lane record is the last that an accepted frame changes of the roster, and takes the configuration as it was. -/
theorem Part.applyFrame_lane : (p.applyFrame f).roster.lane = (p.applyLane f).roster.lane := by
  rw [Part.applyFrame, Part.excessCheck_roster]
  by_cases hlane : ∃ x, f.body = .lane x
  · obtain ⟨x, hx⟩ := hlane
    rw [Part.applyLane_of_lane hx, Part.applyLane_of_lane hx]
    simp only [Part.spacing, Part.budgetMismatch_ctl]
  · rw [Part.applyLane_of_other (not_exists.mp hlane), Part.applyLane_of_other (not_exists.mp hlane),
      Part.budgetMismatch_lane]
    rfl

/-- R39: of the roster the lane record alone is taken from a frame that bears the own number. -/
theorem Part.applyOwnNumber_roster : (p.applyOwnNumber f).roster = (p.applyLane f).roster := Part.excessCheck_roster _

end Applied

/-- Settles O23. -/
theorem laneRecordAndOwnNumber : Obligations.LaneRecordAndOwnNumber := by
  intro p f spacing
  have hspacing : p.spacing = spacing := by
    simp only [spacing, Part.spacing]
    cases p.ctl.config <;> rfl
  have hlane : (p.applyLane f).roster.lane = match f.body with
      | .lane _ => some ⟨stationOfField f.station, spacing⟩
      | _ => p.roster.lane := by
    rw [← hspacing]
    unfold Part.applyLane
    cases f.body <;> rfl
  rw [Part.applyFrame_lane, Part.applyOwnNumber_roster]
  exact ⟨hlane, hlane, Part.applyLane_entry p f⟩

section Comparison
variable {p : Part} {c : Configuration} {u : BitVec 2} {a st : BitVec 4} {x y : BitVec 2} {b : BitVec 5} {k : BitVec 3}

/-- A HOLD of another station with another budget, while its entry's flag is no (02, R35). -/
theorem Part.budgetMismatch_of_new (hc : p.ctl.config = some c) (hother : stationOfField st ≠ p.station)
    (hbudget : b.toNat + 1 ≠ c.budget) (hflag : (p.roster.entry (stationOfField st)).mismatch = false) :
    p.budgetMismatch ⟨u, a, st, .hold x y b k⟩ = { p with
      roster := p.roster.withEntry (stationOfField st) { p.roster.entry (stationOfField st) with mismatch := true }
      ntc := p.ntc.arrive c.trigger ⟨.budgetMismatch, stationOfField st, p.cyc.phase, some (b.toNat + 1)⟩ } := by
  simp only [Part.budgetMismatch, hc]
  rw [if_pos ⟨hother, hbudget, hflag⟩]
  simp only [Part.notify, hc]
  rfl

/-- Any other HOLD (02, R35). -/
theorem Part.budgetMismatch_of_known (hc : p.ctl.config = some c) (hknown : stationOfField st = p.station ∨
    b.toNat + 1 = c.budget ∨ (p.roster.entry (stationOfField st)).mismatch = true) :
    p.budgetMismatch ⟨u, a, st, .hold x y b k⟩ = p := by
  simp only [Part.budgetMismatch, hc]
  refine if_neg ?_
  rintro ⟨hother, hbudget, hflag⟩
  obtain h | h | h := hknown
  · exact hother h
  · exact hbudget h
  · exact Bool.false_ne_true (hflag.symm.trans h)

end Comparison

/-- What an entry reads after a write to the same and to another. -/
theorem Roster.entry_withEntry (r : Roster) (i j : Station) (e : Entry) :
    (r.withEntry i e).entry j = if j = i then e else r.entry j := by
  split
  · next hsame => rw [hsame, Roster.entry_withEntry_self]
  · next hother => exact Roster.entry_withEntry_ne r e hother

/-- Settles O24. -/
theorem budgetMismatch : Obligations.BudgetMismatch := by
  intro p u a st
  exact ⟨fun x y b k c hc => ⟨Part.budgetMismatch_of_new hc, Part.budgetMismatch_of_known hc⟩,
    fun hnone body => p.budgetMismatch_of_no_config _ hnone, rfl, fun _ => rfl, fun _ _ => ⟨rfl, rfl⟩,
    fun j e => ⟨rfl, p.roster.entry_withEntry _ j e⟩⟩

/-- A TAKE is over the prospective budget, or stale for a sender that is PRESENT (02, R44). -/
theorem Part.conflict_take_iff {p : Part} {u : BitVec 2} {a st : BitVec 4} {added after : BitVec 2} :
    p.conflict ⟨u, a, st, .take added after⟩ = true ↔
      (∀ b, p.prospectiveBudget (stationOfField st) = some b →
        b < p.roster.heldTotal - (p.roster.entry (stationOfField st)).counted + after.toNat) ∨
      ((p.roster.entry (stationOfField st)).presence = .present ∧
        (p.roster.entry (stationOfField st)).held ≠ after.toNat - added.toNat) := by
  unfold Part.conflict
  dsimp only
  rw [Bool.or_eq_true, Bool.and_eq_true, decide_eq_true_iff, decide_eq_true_iff]
  refine or_congr_left ?_
  cases p.prospectiveBudget (stationOfField st) with
  | none => simp
  | some budget => simp

/-- Settles O25. -/
theorem conflictObjections : Obligations.ConflictObjections := by
  intro p u a st added after
  exact ⟨Part.conflict_take_iff, fun x => Option.isSome_iff_ne_none, rfl, fun _ _ => rfl, fun _ _ _ _ => rfl⟩

end Sys2Proof.Machine

namespace Sys2Proof.Machine

/-! ### The excess check -/

section Excess
variable {p : Part}

/-- R61: an excess that marks the own station sheds it in ACTIVE with the shed flag clear. -/
theorem Part.onExcess_of_active (n : Nat) (hs : p.ctl.standing = .active) (hshed : p.ctl.shed = false) :
    p.onExcess n = { p with
      ctl := { p.ctl with shed := true }
      ntc := p.ntc.arrive (triggerOf p.ctl.config) ⟨.excessShed, p.station, p.cyc.phase, some n⟩ } :=
  if_pos ⟨hs, hshed⟩

theorem Part.onExcess_of_other (n : Nat) (h : p.ctl.standing ≠ .active ∨ p.ctl.shed = true) : p.onExcess n = p := by
  refine if_neg ?_
  rintro ⟨hs, hshed⟩
  obtain h | h := h
  · exact h hs
  · exact Bool.false_ne_true (hshed.symm.trans h)

theorem Part.excessCheck_of_no_budget (h : p.roster.effectiveBudget p.ownBudget = none) : p.excessCheck = p := by
  unfold Part.excessCheck
  rw [h]

theorem Part.excessCheck_of_budget {b : Nat} (h : p.roster.effectiveBudget p.ownBudget = some b) : p.excessCheck =
    if b < p.roster.heldTotal ∧ p.station ∈ p.roster.marked (p.roster.heldTotal - b) then
      p.onExcess (p.roster.heldTotal - b)
    else p := by
  unfold Part.excessCheck
  rw [h]

/-- In another standing, or once shed, an excess changes nothing, whomever it marks. -/
theorem Part.excessCheck_of_other (h : p.ctl.standing ≠ .active ∨ p.ctl.shed = true) : p.excessCheck = p := by
  cases hb : p.roster.effectiveBudget p.ownBudget with
  | none => exact Part.excessCheck_of_no_budget hb
  | some b => rw [Part.excessCheck_of_budget hb, Part.onExcess_of_other _ h, ite_self]

end Excess

/-- Settles O27. -/
theorem excessCheck : Obligations.ExcessCheck := by
  intro p
  refine ⟨fun b hb hexcess hmarked hs hshed => ?_, Part.excessCheck_of_other, fun b hb hexcess hmarked => ?_,
    fun b hb hwithin => ?_, Part.excessCheck_of_no_budget⟩
  · exact (Part.excessCheck_of_budget hb).trans ((if_pos ⟨hexcess, hmarked⟩).trans (Part.onExcess_of_active _ hs hshed))
  · exact (Part.excessCheck_of_budget hb).trans (if_neg fun h => hmarked h.2)
  · exact (Part.excessCheck_of_budget hb).trans (if_neg fun h => Nat.not_lt.mpr hwithin h.1)

end Sys2Proof.Machine

namespace Sys2Proof.Machine

/-! ### Roster and standing timers run out -/

section Expiry
variable {p : Part}

theorem effectOf_laneSpacingExpiry_of_due (hw : p.works) (hd : p.roster.laneDue = true) :
    effectOf .laneSpacingExpiry p = Part.settle { p with roster := { p.roster with lane := none } } := if_pos ⟨hw, hd⟩

theorem effectOf_laneSpacingExpiry_of_not_due (hd : p.roster.laneDue ≠ true) : effectOf .laneSpacingExpiry p = p :=
  if_neg fun h => hd h.2

theorem effectOf_entryAgedLost_of_due {i : Station} (hw : p.works) (hi : i ≠ p.station)
    (hd : (p.roster.entry i).agedOut = true) : effectOf (.entryAgedLost i) p = Part.settle { p with
      roster := p.roster.withEntry i { p.roster.entry i with presence := .lost, held := 0, mismatch := false }
      ntc := p.ntc.arrive (triggerOf p.ctl.config) ⟨.lost, i, p.cyc.phase, none⟩ } := if_pos ⟨hw, hi, hd⟩

theorem effectOf_entryAgedLost_of_not_due {i : Station} (hd : (p.roster.entry i).agedOut ≠ true) :
    effectOf (.entryAgedLost i) p = p := if_neg fun h => hd h.2.2

theorem effectOf_listenTimerExpiry_of_due (hw : p.works) (hs : p.ctl.standing = .listening)
    (hd : p.ctl.listen.isDue listenLimit = true) :
    effectOf .listenTimerExpiry p = (p.changeStanding .active).settle := if_pos ⟨hw, hs, hd⟩

theorem effectOf_standingTimerExpiry_of_due (hw : p.works) (hs : p.ctl.standing = .active)
    (hd : p.ctl.unheard.isDue standingLimit = true) :
    effectOf .standingTimerExpiry p = (p.faultStanding .isolated .selfShed).settle := if_pos ⟨hw, hs, hd⟩

theorem effectOf_standingTimerExpiry_of_not_due (hd : p.ctl.unheard.isDue standingLimit ≠ true) :
    effectOf .standingTimerExpiry p = p := if_neg fun h => hd h.2.2

theorem effectOf_censusTimerExpiry_of_due (hw : p.works) (hs : p.ctl.standing = .active ∨ p.ctl.standing = .isolated)
    (hd : p.ctl.census.isDue censusLimit = true) : effectOf .censusTimerExpiry p = p.census.settle :=
  if_pos ⟨hw, hs, hd⟩

end Expiry

/-- R64, R70: what a census puts in the set and counts, with the unmet want written out. -/
theorem Part.census_eq (p : Part) : p.census = { p with ctl := { p.ctl with
    send := { p.ctl.send with hold := true }
    census := .running 0
    waitAge := if p.ownHeld < p.cyc.heatWant ∨ p.cyc.laneWant ≠ none then min 15 (p.ctl.waitAge + 1)
      else p.ctl.waitAge } } := by
  simp only [Part.census, Part.wantUnmet, Option.isSome_iff_ne_none]

theorem Timer.not_isDue_of_running {t : Timer} {n limit : Nat} (ht : t = .running n) (hn : n < limit) :
    t.isDue limit ≠ true := by
  rw [ne_eq, Timer.isDue_iff]
  rintro ⟨m, hm, hle⟩
  cases ht.symm.trans hm
  omega

/-- Settles O29: each expiry is taken at its timer's limit, and one whose timer a frame has restarted is not. -/
theorem groupTimers : Obligations.GroupTimers := by
  intro s i n hw
  refine ⟨fun j hlane => ?_, fun j hlane hn => ?_, fun hheard => ?_, fun ht hn => ?_, fun hi hpresent hheard => ?_,
    fun hs ht hn => ?_, fun hs ht hn => ?_, fun hs ht hn => ?_⟩
  · exact exec_eq_of_effect (effectOf_laneSpacingExpiry_of_due hw (Roster.laneDue_iff.mpr ⟨_, hlane, rfl⟩))
  · refine exec_eq_self (effectOf_laneSpacingExpiry_of_not_due fun hd => ?_)
    obtain ⟨l, hl, hzero⟩ := Roster.laneDue_iff.mp hd
    cases hlane.symm.trans hl
    exact hn.ne' hzero
  · exact exec_eq_self (effectOf_entryAgedLost_of_not_due fun hd => Nat.not_le.mpr hheard (Entry.agedOut_iff.mp hd).2)
  · exact exec_eq_self (effectOf_standingTimerExpiry_of_not_due (Timer.not_isDue_of_running ht hn))
  · exact exec_eq_of_effect (effectOf_entryAgedLost_of_due hw hi (Entry.agedOut_iff.mpr ⟨hpresent, hheard⟩))
  · exact exec_eq_of_effect (effectOf_listenTimerExpiry_of_due hw hs (Timer.isDue_of_running ht hn))
  · exact exec_eq_of_effect (effectOf_standingTimerExpiry_of_due hw hs (Timer.isDue_of_running ht hn))
  · rw [exec_eq_of_effect (effectOf_censusTimerExpiry_of_due hw hs (Timer.isDue_of_running ht hn)), Part.census_eq]

end Sys2Proof.Machine

namespace Sys2Proof.Machine

/-! ### CONFIGURE -/

section Configure
variable {p : Part} {c : Configuration}

theorem Part.runConfigure_of_locked (hs : p.ctl.standing ≠ .unconfigured) : p.runConfigure c = p.answer .locked [] :=
  if_pos hs

theorem Part.runConfigure_of_undecided (hs : p.ctl.standing = .unconfigured) (hd : p.res.decided = false) :
    p.runConfigure c = p.answer .state [] := (if_neg (not_not_intro hs)).trans (if_pos hd)

theorem Configuration.inRange_iff : c.inRange ↔ (1 ≤ c.budget ∧ c.budget ≤ 32) ∧ (2 ≤ c.spacing ∧ c.spacing ≤ 10) ∧
    c.reheat ≤ 15 ∧ (1 ≤ c.limit ∧ c.limit ≤ 8) ∧
    (c.trigger = 1 ∨ c.trigger = 2 ∨ c.trigger = 4 ∨ c.trigger = 8) := by
  simp only [Configuration.inRange, and_assoc]

/-- Once the resume decision is made, an unconfigured station looks at the ranges. -/
theorem Part.runConfigure_of_outOfRange (hs : p.ctl.standing = .unconfigured) (hd : p.res.decided = true)
    (hr : ¬ c.inRange) : p.runConfigure c = p.answer .range [] := by
  rw [Part.runConfigure, if_neg (not_not_intro hs), if_neg (by simp [hd]), if_pos hr]

theorem Part.runConfigure_of_inRange (hs : p.ctl.standing = .unconfigured) (hd : p.res.decided = true)
    (hr : c.inRange) : p.runConfigure c = Part.settle (Part.answer (Part.requestCheckpoint
      (Part.changeStanding (Part.setConfig p (some c)) .listening)) .done []) := by
  rw [Part.runConfigure, if_neg (not_not_intro hs), if_neg (by simp [hd]), if_neg (not_not_intro hr), Part.accepted]

end Configure

/-- R172: a new trigger of at most the number queued raises ATTN. -/
theorem Part.setConfig_eq (p : Part) (d : Option Configuration) : p.setConfig d = Part.excessCheck { p with
    ctl := { p.ctl with config := d }
    ntc := { p.ntc with
      attn := p.ntc.attn || decide (triggerOf d ≠ triggerOf p.ctl.config ∧ triggerOf d ≤ p.ntc.queue.length) } } := by
  rw [Bool.decide_and]
  rfl

/-- Settles O34, by the three refusals in their order. -/
theorem configure : Obligations.Configure := by
  intro s b sp re li tr hw hx c ranges
  have hrun : effectOf (.configure b sp re li tr) s.toPart = Part.runConfigure c (s.toPart.taking 6) :=
    Part.request_of_free 6 _ hw hx
  refine ⟨fun hs => exec_eq_of_effect (hrun.trans (Part.runConfigure_of_locked hs)),
    fun hs hd => exec_eq_of_effect (hrun.trans (Part.runConfigure_of_undecided hs hd)),
    fun hs hd hr => exec_eq_of_effect (hrun.trans (Part.runConfigure_of_outOfRange hs hd ?_)),
    fun hs hd hr => exec_eq_of_effect (hrun.trans (Part.runConfigure_of_inRange hs hd ?_)), fun p d => ?_⟩
  · exact fun h => hr (Configuration.inRange_iff.mp h)
  · exact Configuration.inRange_iff.mpr hr
  · intro trigger
    have htrigger (e : Option Configuration) : triggerOf e = trigger e := by cases e <;> rfl
    refine ⟨htrigger d, ?_⟩
    rw [Part.setConfig_eq, htrigger, htrigger]

end Sys2Proof.Machine

namespace Sys2Proof.Machine

/-! ### What a millisecond counts -/

theorem Countdown.tickIf_eq (c : Countdown) (counts : Prop) [Decidable counts] : c.tickIf (decide counts) =
    if counts ∧ 0 < c.seconds then
      if c.part + 1 < 1000 then ⟨c.seconds, c.part + 1⟩ else if c.seconds = 1 then ⟨1, 1000⟩ else ⟨c.seconds - 1, 0⟩
    else c := by
  by_cases hcounts : counts
  · by_cases hzero : c.seconds = 0
    · simp [Countdown.tickIf, Countdown.tick, hcounts, hzero]
    · simp [Countdown.tickIf, Countdown.tick, hcounts, hzero, Nat.pos_of_ne_zero hzero]
  · simp [Countdown.tickIf, hcounts]

theorem LineUnit.tick_eq (l : LineUnit) : l.tick =
    { l with recessive := if l.state = .idle ∧ 11 ≤ l.recessive then 19 else l.recessive } := by
  unfold LineUnit.tick
  split <;> rfl

theorem Journal.tick_eq_elapsed (j : Journal) : j.tick = { j with elapsed :=
    if j.operation ≠ none ∨ j.startRead = true then j.elapsed + 1 else j.elapsed } := by
  simp only [Journal.tick, Option.isSome_iff_ne_none]
  split <;> rfl

/-- The outage clock counts whole seconds, held at 65 535, while it runs (07, R129). -/
theorem Supply.tickOutage_eq (u : Supply) : u.tickOutage =
    if u.outageRunning = true ∧ u.outage ≠ none then
      if u.outagePart + 1 < 1000 then { u with outagePart := u.outagePart + 1 }
      else { u with outage := u.outage.map fun t => min 65535 (t + 1), outagePart := 0 }
    else u := by
  unfold Supply.tickOutage
  by_cases hrun : u.outageRunning = true
  · rw [if_pos hrun]
    cases hout : u.outage <;> simp [hrun]
  · simp [hrun]

theorem Gate.tick_eq (g : Gate) (runs : Prop) [Decidable runs] : g.tick (decide runs) = { g with
    heat1 := g.heat1.tick
    heat2 := g.heat2.tick
    motorMinOff := g.motorMinOff.tick
    rotation := g.rotation.tick
    grace := if runs then min 30000 (g.grace + 1) else g.grace
    pastStart := true } := by
  simp only [Gate.tick, decide_eq_true_eq, graceLimit]

/-- In RUN the counters of the phase, the credit, the starvation timer and the checkpoint timer count (04, R78, R80,
R92; 05, R93). -/
theorem Part.cyc_after_tick (p : Part) : (if p.engineRuns then p.tickCycle else p.cyc) =
    if p.sup.power = .run then { p.cyc with
      cool := p.cyc.cool.tickIf (decide (p.cyc.phase = .cool))
      window := p.cyc.window.tickIf (decide (p.cyc.phase = .rest ∨ p.cyc.phase = .burstWait ∨ p.cyc.phase = .burst))
      rest := p.cyc.rest.tickIf (decide (p.cyc.phase = .rest))
      burst := p.cyc.burst.tickIf (decide (p.cyc.phase = .burst))
      credit := if p.cyc.phase = .dry ∧ (p.gate.motor = true ∧ p.gate.watch = .running) ∧ 1 ≤ p.ctl.permit
        then min 1000 (p.cyc.credit + 1) else p.cyc.credit
      starvation := if p.cyc.phase = .dry ∧ 0 < p.cyc.heatWant ∧ p.ownHeld = 0
        then min 1800000 (p.cyc.starvation + 1) else p.cyc.starvation
      checkpointTimer := p.cyc.checkpointTimer.tick }
    else p.cyc := by
  split
  · next hrun => simp only [Part.tickCycle, Part.credited, Gate.runningIndication, and_iff_right hrun, starvationLimit]
  · rfl

section PowerStates
variable {p : Part}

theorem Part.tick_of_off (h : p.sup.power = .off) : p.tick = p := by
  rw [Part.tick, if_neg (Part.not_works_iff.mpr (.inl h)), if_neg (by simp [h])]

theorem Part.tick_of_standby (h : p.sup.power = .standby) : p.tick = { p with sup := p.sup.tickOutage } := by
  rw [Part.tick, if_neg (Part.not_works_iff.mpr (.inr h)), if_pos h]

theorem Part.tick_of_works (h : p.works) : p.tick = { p with
    line := p.line.tick
    roster := p.tick.roster
    ctl := p.ctl.tick
    gate := p.gate.tick (decide p.graceRuns)
    sup := p.sup.tick
    jrn := p.jrn.tick
    ntc := { p.ntc with aged := p.ntc.aged.tick }
    cyc := if p.engineRuns then p.tickCycle else p.cyc } := by
  rw [Part.tick_roster h, Part.tick, if_pos h]

end PowerStates

/-- After a millisecond a stage's enable output shows whether it is energized (06, R116; log 1). -/
theorem StageGate.drive_tick (g : StageGate) : g.tick.drive = g.on := by
  cases hon : g.on with
  | false => simp [StageGate.drive, StageGate.tick, hon]
  | true => simp [StageGate.drive, StageGate.tick, hon, heatMinOnLimit]

theorem Gate.motorDrive_tick (g : Gate) (runs : Bool) : (g.tick runs).motorDrive = g.motor := Bool.and_true _

/-- Settles O60, by the power state; each block's millisecond is that block's own equation. -/
theorem timePasses : Obligations.TimePasses := by
  intro p up down stage clock dry tumbling
  have hup : up = Timer.tick := by
    funext t
    cases t <;> rfl
  have hdown : @down = fun c counts inst => c.tickIf (@decide counts inst) := by
    funext c counts _
    exact (c.tickIf_eq counts).symm
  have hstage : stage = StageGate.tick := by
    funext g
    simp only [stage, hup]
    rfl
  have hclock : clock = p.sup.tickOutage := p.sup.tickOutage_eq.symm
  rw [hup, hdown, hstage, hclock]
  refine ⟨Part.tick_of_off, Part.tick_of_standby, fun hw => ?_, fun hw => ?_, fun hw => ?_⟩
  · refine (Part.tick_of_works hw).trans ?_
    rw [LineUnit.tick_eq, Journal.tick_eq_elapsed, Gate.tick_eq, Part.cyc_after_tick]
    rfl
  · rw [Part.tick_gate hw]
    exact ⟨p.gate.motorDrive_tick _, p.gate.heat1.drive_tick, p.gate.heat2.drive_tick⟩
  · rw [Part.tick_roster hw]
    exact ⟨rfl, (Roster.entry_tick ..).trans (if_pos rfl), fun i hi => (Roster.entry_tick ..).trans (if_neg hi)⟩

end Sys2Proof.Machine

namespace Sys2Proof.Machine

/-! ### What a settled part is -/

section SettledPart
variable {p : Part}

theorem Cycle.laneWantNow_eq (c : Cycle) : c.laneWantNow =
    if c.phase = .startWait then some (if c.resumed = true then 0 else 1)
    else if c.phase = .burstWait then some 2 else none := by
  unfold Cycle.laneWantNow
  cases c.phase <;> rfl

theorem Phase.wantsMotor_iff (x : Phase) :
    x.wantsMotor = true ↔ x = .spinup ∨ x = .dry ∨ x = .cool ∨ x = .burst := by cases x <;> decide

theorem Standing.permits_dark_iff (x : Standing) : x.permits .dark = true ↔ x = .dark := by cases x <;> decide

theorem Standing.permits_hold_iff (x : Standing) : x.permits .hold = true ↔ x = .active ∨ x = .isolated := by
  cases x <;> decide

theorem Gate.noStageAbove_iff (g : Gate) (k : Nat) :
    g.noStageAbove k = true ↔ (g.heat1.on = true → 1 ≤ k) ∧ (g.heat2.on = true → 2 ≤ k) := by
  simp [Gate.noStageAbove, ← Bool.not_eq_true, ← imp_iff_not_or]

/-- No want unmet: the stages wanted are held, and no lane is wanted (03, R70). -/
theorem Part.not_wantUnmet (hheld : p.cyc.heatWant ≤ p.ownHeld) (hlane : p.cyc.laneWant = none) : ¬ p.wantUnmet := by
  simp [Part.wantUnmet, hheld, hlane]

theorem Part.laneDue_iff : p.laneDue ↔ p.ctl.standing = .active ∧ p.cyc.laneWant ≠ none ∧ p.roster.lane = none ∧
    p.gate.motorMinOff = .reached := by rw [Part.laneDue, Option.isSome_iff_ne_none]

/-- The permit is never more than the stages held (03, R59). -/
theorem Part.permitNow_le (p : Part) : p.permitNow ≤ p.ownHeld := by
  unfold Part.permitNow
  split
  · exact Nat.min_le_left _ _
  · exact Nat.zero_le _

/-- No more stages are energized than the permit allows, nor than are held. -/
theorem Part.energized_le_ownHeld (hpermit : p.PermitFact) (hheat1 : p.gate.heat1.on = true → p.stageMayStay 1)
    (hheat2 : p.gate.heat2.on = true → p.stageMayStay 2) : p.gate.energized ≤ p.ownHeld := by
  have hle : p.ctl.permit ≤ p.ownHeld := hpermit.trans_le p.permitNow_le
  unfold Gate.energized
  cases h1 : p.gate.heat1.on with
  | false =>
    cases h2 : p.gate.heat2.on with
    | false => exact Nat.zero_le _
    | true =>
      obtain ⟨htwo, -⟩ := hheat2 h2
      exact (show 1 ≤ p.ctl.permit by omega).trans hle
  | true =>
    obtain ⟨hone, -⟩ := hheat1 h1
    cases h2 : p.gate.heat2.on with
    | false => exact hone.trans hle
    | true =>
      obtain ⟨htwo, -⟩ := hheat2 h2
      exact htwo.trans hle

end SettledPart

/-- Settles O32, fact by fact of a settled part. -/
theorem claimsOfASettledPart : Obligations.ClaimsOfASettledPart := by
  intro p h
  obtain ⟨hthermostat, hwants, horder, -, hpermit, -, hstarvation, ⟨hdark, hdrop, hhold, htake, hlane⟩, hwait⟩ :=
    Part.facts_of_settled h
  refine ⟨hpermit, ?_, htake, hlane.trans Part.laneDue_iff, fun k => (Standing.permits_dark_iff _).mp (hdark k),
    fun k => (Standing.permits_hold_iff _).mp (hhold k), fun hheld hnone => hwait (Part.not_wantUnmet hheld hnone),
    fun hrun => ?_, hthermostat, horder⟩
  · rw [hdrop, Part.dropDue, Gate.noStageAbove_iff]
    rfl
  · obtain ⟨hheat, hlaneWant, hmotor⟩ := hwants hrun
    refine ⟨hheat, hlaneWant.trans p.cyc.laneWantNow_eq, ?_, fun hheld => hstarvation ⟨hrun, hheld⟩⟩
    rw [hmotor, Phase.wantsMotor_iff]

/-- Settles O56: the gate's outputs by the facts of R107 and R112, the set by the condition of each kind. -/
theorem settledIsSafe : Obligations.SettledIsSafe := by
  intro p h
  obtain ⟨-, -, -, ⟨hmotor, -⟩, hpermit, ⟨⟨hheat1, -⟩, hheat2, -⟩, -, ⟨hdark, hdrop, hhold, htake, hlane⟩, -⟩ :=
    Part.facts_of_settled h
  have hactive (k : Kind) (hk : Standing.active.permits k = true) (hs : p.ctl.standing = .active) :
      p.ctl.standing.permits k = true := hs ▸ hk
  refine ⟨⟨hheat1, hheat2, Part.energized_le_ownHeld hpermit hheat1 hheat2⟩, hmotor, hdark, fun k => ?_, hhold,
    fun k => ?_, fun k => ?_⟩
  · exact hactive .drop rfl (hdrop.mp k).1
  · exact hactive .take rfl (htake.mp k).1
  · exact hactive .lane rfl (hlane.mp k).1

end Sys2Proof.Machine

namespace Sys2Proof.Machine

/-! ### The kind on offer -/

section Offered
variable {p : Part}

theorem Part.offered_of_dark (h : p.ctl.send.dark = true) : p.offered = some .dark := if_pos h

theorem Part.offered_of_drop (hdark : p.ctl.send.dark = false) (h : p.ctl.send.drop = true) :
    p.offered = some .drop := by
  simp [Part.offered, hdark, h]

/-- With neither DARK nor DROP in the set, HOLD is offered unless ISOLATED holds it back (03, R63). -/
theorem Part.offered_of_hold (hdark : p.ctl.send.dark = false) (hdrop : p.ctl.send.drop = false)
    (h : p.ctl.send.hold = true) (hheat : p.ctl.standing = .isolated → p.gate.heatOff) : p.offered = some .hold := by
  simp only [Part.offered, hdark, hdrop, Bool.false_eq_true, if_false]
  exact if_pos ⟨h, hheat⟩

/-- With HOLD not offered, TAKE comes before LANE (03, R63). -/
theorem Part.offered_of_no_hold (hdark : p.ctl.send.dark = false) (hdrop : p.ctl.send.drop = false)
    (hhold : ¬ (p.ctl.send.hold = true ∧ (p.ctl.standing = .isolated → p.gate.heatOff))) :
    p.offered = if p.ctl.send.take = true then some .take else if p.ctl.send.lane = true then some .lane else none := by
  simp only [Part.offered, hdark, hdrop, Bool.false_eq_true, if_false]
  exact if_neg hhold

end Offered

/-- Settles O7, by the kinds in their order. -/
theorem offeredKind : Obligations.OfferedKind := by
  intro p
  refine ⟨Part.offered_of_dark, Part.offered_of_drop, fun hdark hdrop hhold hfree => ?_, fun hsend => ?_,
    fun hs hsend hon => ?_, fun hsend => ?_, fun hsend => ?_⟩
  · exact Part.offered_of_hold hdark hdrop hhold fun hs => hfree.resolve_left fun h => h hs
  · rw [Part.offered_of_no_hold] <;> simp [hsend, SendSet.empty]
  · have hheat : ¬ p.gate.heatOff := by
      rintro ⟨h1, h2⟩
      simp [h1, h2] at hon
    rw [Part.offered_of_no_hold] <;> simp [hsend, hs, hheat]
  · rw [Part.offered_of_no_hold] <;> rw [hsend] <;> simp
  · rw [Part.offered_of_no_hold] <;> simp [hsend]

end Sys2Proof.Machine

namespace Sys2Proof.Machine

/-! ### Changes of standing -/

/-- Settles O28. -/
theorem standingChange : Obligations.StandingChange := by
  intro p new fault q
  have hsent {a b : Bool} (h : (a && b) = true) : b = true := (Bool.and_eq_true_iff.mp h).2
  refine ⟨rfl, hsent, hsent, hsent, decide_eq_true_iff, decide_eq_true_iff, fun h => if_neg h, fun h => if_pos h, rfl,
    rfl, rfl, rfl, rfl, rfl, rfl, rfl, rfl, rfl, rfl, rfl, fun h => if_pos h, fun hb hd => ?_⟩
  exact if_neg fun h => h.elim hb hd

/-! ### Own frames -/

section OwnFrames
variable {p : Part} {f : Frame}

theorem Part.changePhase_cyc (p : Part) (x : Phase) : (p.changePhase x).cyc = p.cyc.enter x := by
  simp [Part.changePhase]

theorem Part.laneGrant_of_startWait (hrun : p.engineRuns) (h : p.cyc.phase = .startWait) : p.laneGrant =
    Part.changePhase { p with gate := { p.gate with startOrder := true } } .spinup := if_pos ⟨hrun, h⟩

theorem Part.laneGrant_of_burstWait (hrun : p.engineRuns) (h : p.cyc.phase = .burstWait) : p.laneGrant =
    Part.changePhase { p with
      gate := { p.gate with startOrder := true }
      cyc := { p.cyc with burst := ⟨p.cyc.burstSeconds, 0⟩ } } .burst :=
  (if_neg fun k => by simp [h] at k).trans (if_pos ⟨hrun, h⟩)

theorem Part.laneGrant_of_other (h : ¬ (p.engineRuns ∧ (p.cyc.phase = .startWait ∨ p.cyc.phase = .burstWait))) :
    p.laneGrant = p :=
  (if_neg fun k => h ⟨k.1, .inl k.2⟩).trans (if_neg fun k => h ⟨k.1, .inr k.2⟩)

/-- The phase a lane grant leads to (R75, R96). -/
theorem Part.laneGrant_phase (p : Part) : p.laneGrant.cyc.phase =
    if p.sup.power = .run ∧ p.cyc.phase = .startWait then .spinup
    else if p.sup.power = .run ∧ p.cyc.phase = .burstWait then .burst else p.cyc.phase := by
  unfold Part.laneGrant
  split
  · rw [Part.changePhase_cyc]; rfl
  · split
    · rw [Part.changePhase_cyc]; rfl
    · rfl

/-- What an own frame of kind `k` accepted does to the set, the standing timer, the shed flag and the counters, whatever
else it leads to (R60, R62, R64, R67, R69, R70). -/
def Part.ownHeard (p : Part) (k : Kind) : Part := { p with ctl := { p.ctl with
  send := { p.ctl.send with
    hold := p.ctl.send.hold && decide (k ≠ .hold)
    dark := p.ctl.send.dark && decide (k ≠ .dark) }
  unheard := if p.ctl.unheard.isRunning = true then .running 0 else p.ctl.unheard
  shed := decide (0 < p.ownHeld) && (p.ctl.shed || decide (p.ctl.standing ≠ .active))
  takeVoids := if k = .take ∨ k = .hold then 0 else p.ctl.takeVoids
  waitAge := if k = .lane ∨ (k = .take ∧ p.cyc.heatWant ≤ p.ownHeld) then 0 else p.ctl.waitAge } }

/-- Only HOLD in ISOLATED, LANE in ACTIVE and DARK lead to more (R55, R68, R125). -/
theorem Part.ownAccepted_eq (p : Part) (f : Frame) : p.ownAccepted f =
    match f.kind with
    | .hold => if p.ctl.standing = .isolated then (p.ownHeard .hold).changeStanding .listening else p.ownHeard .hold
    | .lane => if p.ctl.standing = .active then (p.ownHeard .lane).laneGrant else p.ownHeard .lane
    | .dark => { p.ownHeard .dark with sup := { p.sup with darkSent := true } }
    | .drop => p.ownHeard .drop
    | .take => p.ownHeard .take := by
  have hshed : (if p.ownHeld = 0 then false else p.ctl.shed || decide (p.ctl.standing ≠ .active)) =
      (decide (0 < p.ownHeld) && (p.ctl.shed || decide (p.ctl.standing ≠ .active))) := by
    by_cases h : p.ownHeld = 0
    · simp [h]
    · simp [h, Nat.pos_of_ne_zero h]
  unfold Part.ownAccepted Part.ownHeard
  rw [hshed]
  cases f.kind <;> rfl

theorem Part.ownAccepted_hold (h : f.kind = .hold) (hs : p.ctl.standing ≠ .isolated) :
    p.ownAccepted f = p.ownHeard f.kind := by simp only [Part.ownAccepted_eq, h, if_neg hs]

theorem Part.ownAccepted_hold_of_isolated (h : f.kind = .hold) (hs : p.ctl.standing = .isolated) :
    p.ownAccepted f = (p.ownHeard f.kind).changeStanding .listening := by simp only [Part.ownAccepted_eq, h, if_pos hs]

theorem Part.ownAccepted_lane (h : f.kind = .lane) (hs : p.ctl.standing ≠ .active) :
    p.ownAccepted f = p.ownHeard f.kind := by simp only [Part.ownAccepted_eq, h, if_neg hs]

theorem Part.ownAccepted_lane_of_active (h : f.kind = .lane) (hs : p.ctl.standing = .active) :
    p.ownAccepted f = (p.ownHeard f.kind).laneGrant := by simp only [Part.ownAccepted_eq, h, if_pos hs]

end OwnFrames

/-- Settles O30, kind by kind. -/
theorem ownOutcome : Obligations.OwnOutcome := by
  intro p f t
  refine ⟨fun h => ?_, Part.ownAccepted_hold, Part.ownAccepted_hold_of_isolated, fun h => ?_,
    Part.ownAccepted_lane_of_active, Part.ownAccepted_lane, fun h => if_pos h, fun h => if_neg h⟩
  · change p.ownAccepted f = p.ownHeard f.kind
    obtain h | h := h
    · simp only [Part.ownAccepted_eq, h]
    · simp only [Part.ownAccepted_eq, h]
  · change p.ownAccepted f = { p.ownHeard f.kind with sup := { p.sup with darkSent := true } }
    simp only [Part.ownAccepted_eq, h]

/-- Settles O31: the grant by the phase, and an own LANE is a grant in ACTIVE alone. -/
theorem laneGrant : Obligations.LaneGrant := by
  intro p
  refine ⟨Part.laneGrant_of_startWait, Part.laneGrant_of_burstWait, fun h => Part.laneGrant_of_other fun k => ?_,
    fun f hf => ⟨fun hs => ?_, fun hs => ?_⟩⟩
  · exact k.2.elim h.1 h.2
  · rw [Part.ownAccepted_lane hf hs]
    exact ⟨rfl, rfl⟩
  · rw [Part.ownAccepted_lane_of_active hf hs, Part.laneGrant_phase]
    rfl

end Sys2Proof.Machine

namespace Sys2Proof.Machine

/-! ### The derived state of the whole part -/

/-- R107, R108 for one stage, with its condition as a proposition. -/
theorem StageGate.settled_decide (g : StageGate) (m : Prop) [Decidable m] (x : Bool) : g.settled (decide m) x =
    if g.on = true then
      if m then g else ⟨false, 0, if g.minOn = 0 then .reached else .running 0, false⟩
    else if m ∧ ¬ x = true ∧ g.minOff = .reached then ⟨true, 0, .reached, false⟩
    else g := by
  rw [StageGate.settled_eq]
  simp only [decide_eq_true_eq]

section Settle
variable (p : Part)

/-- The part with the wants worked out, and MOTOR by them; the permit and the stages come after. -/
abbrev Part.turned : Part := p.settleThermostat.settleWants.settleOrder.settleMotor

/-- What follows MOTOR, as one update; the set has an equation of its own (`Part.settle_send`). -/
theorem Part.settle_eq_of_turned {p t : Part} (h : p.turned = t) : p.settle = { t with
    gate := { t.gate with
      heat1 := t.gate.heat1.settled (decide (Part.stageMayStay t.settlePermit 1)) t.inp.level.exhaustHot
      heat2 := t.gate.heat2.settled (decide (Part.stageMayStay t.settlePermit 2)) t.inp.level.exhaustHot }
    cyc := { t.cyc with starvation := if t.sup.power = .run ∧ 1 ≤ t.ownHeld then 0 else t.cyc.starvation }
    ctl := { t.ctl with
      permit := t.permitNow
      send := p.settle.ctl.send
      waitAge := if t.ownHeld < t.cyc.heatWant ∨ t.cyc.laneWant ≠ none then t.ctl.waitAge else 0 } } := by
  have hsettle : p.settle = t.settlePermit.settleHeat.settleStarvation.settleSend.settleWait := by rw [← h]; rfl
  rw [hsettle, Part.settleWait_eq, Part.settleStarvation_eq]
  rfl

/-- DARK and HOLD stay while the standing is theirs (R63). -/
theorem Part.settle_send : p.settle.ctl.send = { p.settle.ctl.send with
    dark := p.ctl.send.dark && decide (p.ctl.standing = .dark)
    hold := p.ctl.send.hold && decide (p.ctl.standing = .active ∨ p.ctl.standing = .isolated) } := by
  rw [Part.settle, Part.settleWait_eq, Part.settleSend_eq]
  simp [Part.settlePermit]

theorem Part.settle_gate : p.settle.gate = p.turned.settlePermit.settleHeat.gate := by simp [Part.settle, Part.turned]

/-- Neither the wants nor an order fallen away switch an output, and MOTOR by them leaves the stages alone and raises no
enable output. -/
theorem Part.turned_outputs : p.turned.gate.heat1 = p.gate.heat1 ∧ p.turned.gate.heat2 = p.gate.heat2 ∧
    (p.turned.gate.motorDrive = true → p.gate.motorDrive = true) := by
  have hordered : p.settleThermostat.settleWants.settleOrder.gate.heat1 = p.gate.heat1 ∧
      p.settleThermostat.settleWants.settleOrder.gate.heat2 = p.gate.heat2 ∧
      p.settleThermostat.settleWants.settleOrder.gate.motorDrive = p.gate.motorDrive := by
    rw [Part.settleOrder_eq, Part.settleWants_eq, Part.settleThermostat_eq]
    exact ⟨rfl, rfl, rfl⟩
  obtain ⟨horder1, horder2, horderMotor⟩ := hordered
  rw [← horder1, ← horder2, ← horderMotor]
  exact Part.settleMotor_keeps _

/-- No enable output is raised by working out the derived state (R116; log 1). -/
theorem Part.settle_drives : (p.settle.gate.motorDrive = true → p.gate.motorDrive = true) ∧
    (p.settle.gate.heat1.drive = true → p.gate.heat1.drive = true) ∧
    (p.settle.gate.heat2.drive = true → p.gate.heat2.drive = true) := by
  obtain ⟨hheat1, hheat2, hmotor⟩ := p.turned_outputs
  rw [Part.settle_gate, ← hheat1, ← hheat2]
  exact ⟨hmotor, fun h => (StageGate.settled_drive _ _ _ h).1, fun h => (StageGate.settled_drive _ _ _ h).1⟩

end Settle

theorem StageGate.on_of_drive {g : StageGate} (h : g.drive = true) : g.on = true := (Bool.and_eq_true_iff.mp h).1

theorem Gate.motor_of_motorDrive {g : Gate} (h : g.motorDrive = true) : g.motor = true := (Bool.and_eq_true_iff.mp h).1

/-- Settles O44: the wants, then MOTOR by them, then the permit and the stages, each step as one update. -/
theorem outputsFollowTheirConditions : Obligations.OutputsFollowTheirConditions := by
  intro p q run hot report heatWant laneWant wanted permit motorStays gate turned stage
  obtain ⟨hmotor, hheat1, hheat2⟩ := p.settle_drives
  refine ⟨?_, p.settle_settled, fun h => ⟨hmotor h, Gate.motor_of_motorDrive h⟩,
    fun h => ⟨hheat1 h, StageGate.on_of_drive h⟩, fun h => ⟨hheat2 h, StageGate.on_of_drive h⟩⟩
  have hordered : p.settleThermostat.settleWants.settleOrder = { p with
      gate := gate
      cyc := { p.cyc with heatWant := heatWant, laneWant := laneWant, motorWanted := wanted } } := by
    rw [Part.settleOrder_eq, Part.settleWants_eq, Part.settleThermostat_eq]
  have hturned : p.turned = { p with
      gate := turned
      cyc := { p.cyc with heatWant := heatWant, laneWant := laneWant, motorWanted := wanted } } := by
    rw [Part.turned, hordered, Part.settleMotor_eq _ p.gate.startOrder rfl]
  obtain ⟨hkept1, hkept2, -⟩ := p.turned_outputs
  rw [hturned] at hkept1 hkept2
  have hstage (n : Nat) (g : StageGate) :
      g.settled (decide (Part.stageMayStay (Part.settlePermit { p with
        gate := turned
        cyc := { p.cyc with heatWant := heatWant, laneWant := laneWant, motorWanted := wanted } }) n))
        p.inp.level.exhaustHot = stage n g := StageGate.settled_decide _ _ _
  rw [← p.settle_send, ← hstage, ← hstage, ← hkept1, ← hkept2]
  exact Part.settle_eq_of_turned hturned

end Sys2Proof.Machine

namespace Sys2Proof.Machine

/-! ### The declaration of mains absent -/

section Frozen
variable {p : Part} (h : p.sup.power ≠ .run)
include h

/-- Out of RUN no output is energized (R107, R112). -/
theorem Part.settle_off : p.settle.gate.heat1.on = false ∧ p.settle.gate.heat2.on = false ∧
    p.settle.gate.motor = false := by
  have hrun : p.settle.sup.power ≠ .run := by rwa [Part.settle_sup]
  obtain ⟨-, -, -, ⟨hmotor, -⟩, -, ⟨⟨hheat1, -⟩, hheat2, -⟩, -⟩ := p.settle_facts
  simp only [← Bool.not_eq_true]
  exact ⟨fun k => hrun (Part.run_of_stageMayStay (hheat1 k)), fun k => hrun (Part.run_of_stageMayStay (hheat2 k)),
    fun k => hrun (Part.run_of_motorMayRun (hmotor k))⟩

/-- Out of RUN the cycle engine is frozen (R90). -/
theorem Part.settle_cyc_of_frozen : p.settle.cyc = p.cyc := by
  simp [Part.settle, Part.settleStarvation_eq, Part.settleWants_eq, h]

end Frozen

/-- In DARK nothing but DARK is in the set (R50). -/
theorem Part.settle_send_of_dark {p : Part} (hs : p.ctl.standing = .dark) (hd : p.ctl.send.dark = true) :
    p.settle.ctl.send = ⟨true, false, false, false, false⟩ := by
  have hactive : p.settle.ctl.standing ≠ .active := by simp [Part.settle_standing, hs]
  obtain ⟨-, -, -, -, -, -, -, ⟨-, hdrop, -, htake, hlane⟩, -⟩ := p.settle_facts
  have hdrop' : p.settle.ctl.send.drop = false := by simpa using fun k => hactive (hdrop.mp k).1
  have htake' : p.settle.ctl.send.take = false := by simpa using fun k => hactive (htake.mp k).1
  have hlane' : p.settle.ctl.send.lane = false := by simpa using fun k => hactive (hlane.mp k).1
  rw [Part.settle_send]
  simp [hdrop', htake', hlane', hs, hd]

/-- A checkpoint request reads the journal, the configuration, the station and the cycle engine alone (R132, R136). -/
theorem Part.requestCheckpoint_jrn_congr {p q : Part} (hjrn : q.jrn = p.jrn) (hconfig : q.ctl.config = p.ctl.config)
    (hstation : q.station = p.station) (hcyc : q.cyc = p.cyc) : q.requestCheckpoint.jrn = p.requestCheckpoint.jrn := by
  unfold Part.requestCheckpoint Part.beginWrite Part.composeRecord
  rw [hjrn, hconfig, hstation, hcyc]
  split
  · exact hjrn
  · split <;> rfl

theorem Part.requestCheckpoint_setSupPort (p : Part) (u : Supply) (x : Port) :
    Part.requestCheckpoint { p with sup := u, port := x } = { p.requestCheckpoint with sup := u, port := x } := by
  unfold Part.requestCheckpoint
  dsimp only
  split
  · rfl
  · split <;> rfl

/-- A checkpoint asked for with a configuration leaves work in hand (R136). -/
theorem Part.requestCheckpoint_quiet (p : Part) :
    p.requestCheckpoint.jrn.quiet ↔ ¬ (p.ctl.config.isSome || !decide p.jrn.quiet) = true := by
  unfold Part.requestCheckpoint
  split
  · next hc => simp [hc]
  · next c hc =>
    split
    · simp [hc, Part.beginWrite]
    · simp [hc]

theorem Part.refuseHeldReset_eq (p : Part) : p.refuseHeldReset = { p with
    port := if p.port.held = some .stationReset then ⟨.replyReady, none, [1], p.port.sdo⟩ else p.port } := by
  unfold Part.refuseHeldReset
  split <;> rfl

theorem Part.finalCheck_eq {p : Part} (h : p.sup.finalWanted = true) :
    p.finalCheck = { p with sup := { p.sup with finalWanted := !decide p.jrn.quiet } } := by
  unfold Part.finalCheck
  split
  · next hq => simp [hq]
  · next hq => simp [hq, ← h]

/-- The supply monitor in RIDE and the port as the declaration leaves them (R123, R169). -/
def Part.riding (p : Part) : Part := { p with
  sup := { p.sup with
    power := .ride
    finalWanted := p.ctl.config.isSome || !decide p.jrn.quiet
    outage := some 0
    outagePart := 0
    outageRunning := true
    doorLatch := p.inp.level.door
    ride := .running 0
    absence := .stopped
    darkSent := false
    rideHeld := false }
  port := if p.port.held = some .stationReset then ⟨.replyReady, none, [1], p.port.sdo⟩ else p.port }

/-- The blocks other than the standing controller and the notice queue are those of `p`, and so is the configuration. -/
structure Part.SameBlocks (q p : Part) : Prop where
  station : q.station = p.station
  line : q.line = p.line
  roster : q.roster = p.roster
  config : q.ctl.config = p.ctl.config
  cyc : q.cyc = p.cyc
  gate : q.gate = p.gate
  sup : q.sup = p.sup
  jrn : q.jrn = p.jrn
  port : q.port = p.port
  inp : q.inp = p.inp
  res : q.res = p.res
  pins : q.pins = p.pins

/-- The change to DARK touches the standing controller and the notice queue alone (R51, R58). -/
theorem Part.goDark_blocks (p : Part) : p.goDark.SameBlocks p := by
  unfold Part.goDark
  split <;> exact ⟨rfl, rfl, rfl, rfl, rfl, rfl, rfl, rfl, rfl, rfl, rfl, rfl⟩

/-- Neither the change to DARK nor the checkpoint request looks at the supply monitor or the port. -/
theorem Part.goDark_requestCheckpoint_setSupPort (p : Part) (u : Supply) (x : Port) :
    Part.requestCheckpoint (Part.goDark { p with sup := u, port := x }) =
      { p.goDark.requestCheckpoint with sup := u, port := x } := by
  have hdark : Part.goDark { p with sup := u, port := x } = { p.goDark with sup := u, port := x } := by
    unfold Part.goDark
    dsimp only
    split <;> rfl
  rw [hdark, Part.requestCheckpoint_setSupPort]

/-- The declaration with its outcome for the supply monitor and the port written at once (R123). -/
theorem Part.declare_eq (p : Part) : p.declare = p.riding.goDark.requestCheckpoint.settle := by
  have hdeclared : Part.requestCheckpoint (Part.goDark { p with sup := p.sup.declared p.inp.level.door }) =
      { p.goDark.requestCheckpoint with sup := p.sup.declared p.inp.level.door, port := p.port } :=
    p.goDark_requestCheckpoint_setSupPort _ _
  have hriding : p.riding.goDark.requestCheckpoint =
      { p.goDark.requestCheckpoint with sup := p.riding.sup, port := p.riding.port } :=
    p.goDark_requestCheckpoint_setSupPort _ _
  have hquiet := p.goDark.requestCheckpoint_quiet
  rw [p.goDark_blocks.jrn, p.goDark_blocks.config] at hquiet
  rw [Part.declare, hdeclared, hriding, Part.refuseHeldReset_eq, Part.finalCheck_eq rfl]
  simp only [hquiet, decide_not, Bool.not_not, Bool.decide_eq_true]
  rfl

/-- RIDE just entered goes on: DARK is not sent, and the ride timer runs (R125). -/
theorem Part.rideCheck_of_running {p : Part} (hdark : p.sup.darkSent = false) (hride : p.sup.ride ≠ .reached) :
    p.rideCheck = p := by
  refine if_neg ?_
  rintro ⟨-, -, hd | hr⟩
  · simp [hdark] at hd
  · exact hride hr

theorem effectOf_mainsDeclaredAbsent {p : Part} (hp : p.sup.power = .run)
    (hd : p.sup.absence.isDue absenceLimit = true) (hlow : p.pins.backupLow = false) :
    effectOf .mainsDeclaredAbsent p = p.riding.goDark.requestCheckpoint.settle := by
  have hdeclare : effectOf .mainsDeclaredAbsent p = p.declare.rideCheck :=
    (if_pos ⟨hp, hd⟩).trans (if_neg (by simp [hlow]))
  have hsup : p.declare.sup = p.riding.sup := by
    rw [Part.declare_eq, Part.settle_sup, Part.requestCheckpoint_sup, p.riding.goDark_blocks.sup]
  rw [hdeclare, Part.rideCheck_of_running, Part.declare_eq]
  · rw [hsup]; rfl
  · rw [hsup]; exact nofun

theorem effectOf_mainsDeclaredAbsent_of_low {p : Part} (hp : p.sup.power = .run)
    (hd : p.sup.absence.isDue absenceLimit = true) (hlow : p.pins.backupLow = true) :
    effectOf .mainsDeclaredAbsent p = p.collapse := (if_pos ⟨hp, hd⟩).trans (if_pos hlow)

theorem Part.goDark_standing (p : Part) :
    p.goDark.ctl.standing = if p.ctl.standing = .barred then .barred else .dark := by
  unfold Part.goDark
  split
  · next h => exact h
  · rfl

theorem Part.goDark_ntc (p : Part) : p.goDark.ntc = if p.ctl.standing = .barred then p.ntc
    else p.ntc.arrive (triggerOf p.ctl.config) ⟨.standing, p.station, p.cyc.phase, some 6⟩ := by
  unfold Part.goDark
  split <;> rfl

theorem Part.goDark_of_not_barred {p : Part} (h : p.ctl.standing ≠ .barred) : p.goDark = p.changeStanding .dark :=
  if_neg h

/-! #### The end of RIDE -/

section RideEnds
variable {p : Part} (hride : p.sup.power = .ride) (hfinal : p.sup.finalWanted = false)
  (hend : p.sup.darkSent = true ∨ p.sup.ride = .reached)

theorem Part.rideCheck_of_unfinished
    (h : p.sup.finalWanted = true ∨ (p.sup.darkSent = false ∧ p.sup.ride ≠ .reached)) : p.rideCheck = p := by
  obtain h | ⟨hdark, htimer⟩ := h
  · exact if_neg fun k => by simp [h] at k
  · exact Part.rideCheck_of_running hdark htimer

include hride hfinal hend

theorem Part.rideCheck_of_inFlight (h : p.line.ownInFlight) :
    p.rideCheck = { p with sup := { p.sup with rideHeld := true } } :=
  (if_pos ⟨hride, hfinal, hend⟩).trans (if_pos h)

theorem Part.rideCheck_of_held (h : ¬ p.line.ownInFlight) (hheld : p.sup.rideHeld = true ∧ p.line.ownUnfinished) :
    p.rideCheck = p := (if_pos ⟨hride, hfinal, hend⟩).trans ((if_neg h).trans (if_pos hheld))

theorem Part.rideCheck_of_over (h : ¬ p.line.ownInFlight) (hheld : ¬ (p.sup.rideHeld = true ∧ p.line.ownUnfinished)) :
    p.rideCheck = p.enterStandby true := (if_pos ⟨hride, hfinal, hend⟩).trans ((if_neg h).trans (if_neg hheld))

end RideEnds

/-- The part in STANDBY before the pins are looked at (R128, R130). -/
def Part.stoodBy (p : Part) (warm : Bool) : Part := { p.lose with sup := { Supply.cold with
  power := .standby
  settle := .stopped
  outage := p.sup.outage
  outagePart := p.sup.outagePart
  outageRunning := p.sup.outageRunning
  doorLatch := p.sup.doorLatch || p.pins.level.door
  warm := warm } }

/-- BACKUP LOW comes before MAINS at the entry to STANDBY (log 16). -/
theorem Part.enterStandby_eq (p : Part) (warm : Bool) : p.enterStandby warm =
    if p.pins.backupLow = true then (p.stoodBy warm).collapse
    else if p.pins.level.mains = true then (p.stoodBy warm).leaveStandby
    else p.stoodBy warm := rfl

/-- The declaration leaves no output energized, the engine as it was, and nothing but DARK in the set unless BARRED. -/
theorem Part.settle_riding (p : Part) :
    let t := p.riding.goDark.requestCheckpoint.settle
    t.gate.heat1.on = false ∧ t.gate.heat2.on = false ∧ t.gate.motor = false ∧ t.cyc = p.cyc ∧
      (p.ctl.standing ≠ .barred → t.ctl.send = ⟨true, false, false, false, false⟩) := by
  have hfrozen : p.riding.goDark.requestCheckpoint.sup.power ≠ .run := by
    rw [Part.requestCheckpoint_sup, p.riding.goDark_blocks.sup]
    exact nofun
  obtain ⟨hheat1, hheat2, hmotor⟩ := Part.settle_off hfrozen
  refine ⟨hheat1, hheat2, hmotor, ?_, fun hbarred => ?_⟩
  · exact (Part.settle_cyc_of_frozen hfrozen).trans ((Part.requestCheckpoint_cyc _).trans p.riding.goDark_blocks.cyc)
  · have hctl : p.riding.goDark.requestCheckpoint.ctl = (p.riding.changeStanding .dark).ctl := by
      rw [Part.requestCheckpoint_ctl, Part.goDark_of_not_barred (p := p.riding) hbarred]
    refine Part.settle_send_of_dark ?_ ?_
    · exact congrArg Controller.standing hctl
    · exact congrArg (·.send.dark) hctl

/-- Settles O50: the declaration as one update, and the end of RIDE condition by condition. -/
theorem declarationAndRide : Obligations.DeclarationAndRide := by
  refine ⟨?_, ?_, ?_⟩
  · intro s n hrun habsent hn ride
    have hdue := Timer.isDue_of_running habsent hn
    refine ⟨fun hlow => ?_, fun hlow d hd => ?_, fun hlow => ?_⟩
    · obtain ⟨hheat1, hheat2, hmotor, hcyc, hsend⟩ := s.toPart.settle_riding
      have hblocks := s.toPart.riding.goDark_blocks
      refine ⟨_, exec_eq_of_effect (effectOf_mainsDeclaredAbsent hrun hdue hlow), ?_, hheat1, hheat2, hmotor, hcyc,
        ?_, hsend, ?_, ?_, ?_, ?_, ?_, ?_, ?_, ?_, ?_, rfl⟩
      · exact (Part.settle_sup _).trans ((Part.requestCheckpoint_sup _).trans hblocks.sup)
      · rw [Part.settle_standing, Part.requestCheckpoint_ctl]
        exact Part.goDark_standing _
      · exact (Part.settle_ntc _).trans ((Part.requestCheckpoint_ntc _).trans (Part.goDark_ntc _))
      · exact (Part.settle_jrn _).trans
          (Part.requestCheckpoint_jrn_congr hblocks.jrn hblocks.config hblocks.station hblocks.cyc)
      · exact (Part.settle_port _).trans ((Part.requestCheckpoint_port _).trans hblocks.port)
      · exact (Part.settle_line _).trans ((Part.requestCheckpoint_line _).trans hblocks.line)
      · exact (Part.settle_roster _).trans ((Part.requestCheckpoint_roster _).trans hblocks.roster)
      · exact (Part.settle_inp _).trans ((Part.requestCheckpoint_inp _).trans hblocks.inp)
      · exact (Part.settle_pins _).trans ((Part.requestCheckpoint_pins _).trans hblocks.pins)
      · exact (Part.settle_res _).trans ((Part.requestCheckpoint_res _).trans hblocks.res)
      · exact (Part.settle_station _).trans ((Part.requestCheckpoint_station _).trans hblocks.station)
    · subst hd
      exact exec_eq_of_effect (effectOf_mainsDeclaredAbsent hrun hdue hlow)
    · exact ⟨_, exec_eq_of_effect (effectOf_mainsDeclaredAbsent_of_low hrun hdue hlow), rfl⟩
  · intro s n hride htimer hn
    exact exec_eq_of_effect (if_pos ⟨hride, Timer.isDue_of_running htimer hn⟩)
  · intro s hride down inFlight unfinished
    refine ⟨Part.rideCheck_of_unfinished, fun hfinal hend => ⟨Part.rideCheck_of_inFlight hride hfinal hend,
      Part.rideCheck_of_held hride hfinal hend, fun hflight hheld => ?_⟩⟩
    have hover : s.rideCheck = s.toPart.enterStandby true := Part.rideCheck_of_over hride hfinal hend hflight hheld
    rw [hover, Part.enterStandby_eq]
    refine ⟨fun hlow hmains => ?_, fun hlow hmains => ?_, fun hlow => ?_⟩
    · rw [if_neg (by simp [hlow]), if_neg (by simp [hmains])]
      rfl
    · rw [if_neg (by simp [hlow]), if_pos hmains]
      exact exec_eq_of_effect (effectOf_standbyMainsReturn_of_mains (p := down) rfl hmains)
    · rw [if_pos hlow]
      exact exec_eq_of_effect (effectOf_backupCollapse_of_low (p := down) (.inr rfl) hlow)

end Sys2Proof.Machine

namespace Sys2Proof.Machine

/-! ### Phase changes and the end of a cycle -/

/-- Settles O40: a phase change and the end of a cycle are each one update, its notices and a checkpoint request. -/
theorem phaseChangeAndCycleEnd : Obligations.PhaseChangeAndCycleEnd := fun _ _ _ => ⟨rfl, rfl⟩

/-! ### Drying and cooling -/

section Drying
variable {p : Part}

/-- With cool time 0 the end of cooling is taken at the same event (R82). -/
theorem Part.endDrying_of_no_cooling (h : p.cyc.coolMinutes = 0) : p.endDrying =
    Part.endCooling (Part.changePhase { p with cyc := { p.cyc with remainingDry := 0, cool := ⟨0, 0⟩ } } .cool) := by
  rw [Part.endDrying, if_pos h, h]

theorem Part.endDrying_of_cooling (h : 0 < p.cyc.coolMinutes) : p.endDrying = Part.changePhase { p with
    cyc := { p.cyc with remainingDry := 0, cool := ⟨p.cyc.coolMinutes * 60, 0⟩ } } .cool := if_neg h.ne'

theorem Part.endCooling_of_window (h : 0 < p.cyc.windowMinutes) : p.endCooling = Part.changePhase { p with
    cyc := { p.cyc with
      cool := ⟨0, 0⟩
      target := .none
      window := ⟨p.cyc.windowMinutes * 60, 0⟩
      rest := ⟨p.cyc.restMinutes * 60, 0⟩
      burst := ⟨0, 0⟩ } } .rest := if_pos h

theorem Part.endCooling_of_no_window (h : p.cyc.windowMinutes = 0) :
    p.endCooling = Part.endCycle { p with cyc := { p.cyc with cool := ⟨0, 0⟩ } } p.cyc.completion := if_neg h.not_gt

/-- A second is taken from remaining dry, and drying ends where none is left (R78, R82). -/
theorem effectOf_creditSecond (h : p.credited) (hcredit : 1000 ≤ p.cyc.credit) : effectOf .creditSecond p =
    Part.settle (if p.cyc.remainingDry - 1 = 0
      then Part.endDrying { p with cyc := { p.cyc with remainingDry := p.cyc.remainingDry - 1, credit := 0 } }
      else { p with cyc := { p.cyc with remainingDry := p.cyc.remainingDry - 1, credit := 0 } }) :=
  if_pos ⟨h, hcredit⟩

theorem effectOf_creditSecond_of_more (h : p.credited) (hcredit : 1000 ≤ p.cyc.credit)
    (hmore : 2 ≤ p.cyc.remainingDry) : effectOf .creditSecond p =
      Part.settle { p with cyc := { p.cyc with remainingDry := p.cyc.remainingDry - 1, credit := 0 } } := by
  rw [effectOf_creditSecond h hcredit, if_neg (by omega)]

/-- The last second, and that of a DRY entered with none left (log 32). -/
theorem effectOf_creditSecond_of_last (h : p.credited) (hcredit : 1000 ≤ p.cyc.credit)
    (hlast : p.cyc.remainingDry ≤ 1) : effectOf .creditSecond p =
      Part.settle (Part.endDrying { p with cyc := { p.cyc with remainingDry := 0, credit := 0 } }) := by
  have hzero : p.cyc.remainingDry - 1 = 0 := by omega
  rw [effectOf_creditSecond h hcredit, if_pos hzero, hzero]

theorem effectOf_endOfCooling (hrun : p.engineRuns) (hcool : p.cyc.phase = .cool)
    (hover : p.cyc.cool.seconds = 0 ∨ (p.cyc.cool.seconds = 1 ∧ 1000 ≤ p.cyc.cool.part)) :
    effectOf .endOfCooling p = p.endCooling.settle := if_pos ⟨hrun, hcool, Countdown.isDue_iff.mpr hover⟩

end Drying

/-- Settles O41: what the end of drying and of cooling lead to, and each event under its conditions. -/
theorem dryingAndCooling : Obligations.DryingAndCooling := by
  intro s n hrun isOver
  refine ⟨fun hstopped => exec_eq_of_effect (if_neg ?_), fun hdry hmotor hwatch hpermit hcredit hmore => ?_,
    fun hdry hmotor hwatch hpermit hcredit hlast => ?_, Part.endDrying_of_no_cooling, Part.endDrying_of_cooling,
    fun hcool hover hwindow => exec_eq_of_effect ?_, fun hcool hover hwindow => exec_eq_of_effect ?_,
    fun hdry hwant hheld hreported htimer => exec_eq_of_effect ?_, fun htimer hn => exec_eq_of_effect ?_⟩
  · exact fun k => hstopped k.1.2
  · exact exec_eq_of_effect (effectOf_creditSecond_of_more ⟨hrun, hdry, ⟨hmotor, hwatch⟩, hpermit⟩ hcredit hmore)
  · exact exec_eq_of_effect (effectOf_creditSecond_of_last ⟨hrun, hdry, ⟨hmotor, hwatch⟩, hpermit⟩ hcredit hlast)
  · rw [effectOf_endOfCooling hrun hcool hover, Part.endCooling_of_window hwindow]
    rfl
  · rw [effectOf_endOfCooling hrun hcool hover, Part.endCooling_of_no_window hwindow]
    rfl
  · rw [← hdry]
    exact if_pos ⟨hrun, hdry, hwant, hheld, hreported, htimer⟩
  · exact if_pos ⟨hrun, Timer.isDue_of_running htimer hn⟩

end Sys2Proof.Machine

namespace Sys2Proof.Machine

/-! ### The door and the high limit -/

section Faults
variable {p : Part}

theorem Part.doorOpened_of_outcome {o : CycleOutcome} (h : p.cyc.doorOutcome = some o) :
    p.doorOpened = p.endCycle o := by rw [Part.doorOpened, h]

theorem Part.doorOpened_of_idle (h : p.cyc.phase = .idle) : p.doorOpened = p := by
  have hnone : p.cyc.doorOutcome = none := by rw [Cycle.doorOutcome, h]
  rw [Part.doorOpened, hnone]

/-- A start ends as the phase it leads to would (R87). -/
theorem Cycle.doorOutcome_of_start {c : Cycle} (h : c.phase = .startWait ∨ c.phase = .spinup) :
    c.doorOutcome = some (if c.target = .cool then .collected else .abandoned) := by
  obtain h | h := h <;> rw [Cycle.doorOutcome, h]

/-- From COOL on the laundry is dry (R87). -/
theorem Cycle.doorOutcome_of_dried {c : Cycle}
    (h : c.phase = .cool ∨ c.phase = .rest ∨ c.phase = .burstWait ∨ c.phase = .burst) :
    c.doorOutcome = some .collected := by
  obtain h | h | h | h := h <;> rw [Cycle.doorOutcome, h]

/-- Both flags set, and a FAULT notice the first time (R88). -/
theorem Part.barHeat_eq (p : Part) : p.barHeat = { p with
    ntc := if p.cyc.highLimitSeen = true then p.ntc
      else p.ntc.arrive (triggerOf p.ctl.config) ⟨.fault, p.station, p.cyc.phase, some 3⟩
    cyc := { p.cyc with heatBarred := true, highLimitSeen := true } } := by
  by_cases hseen : p.cyc.highLimitSeen = true
  · have hset : { p.cyc with heatBarred := true, highLimitSeen := true } = { p.cyc with heatBarred := true } :=
      congrArg (fun b => { p.cyc with heatBarred := true, highLimitSeen := b }) hseen.symm
    rw [hset, if_pos hseen]
    exact if_pos hseen
  · rw [if_neg hseen]
    exact if_neg hseen

theorem Part.highLimitTripped_of_idle (h : p.cyc.phase = .idle) : p.highLimitTripped = p := by
  rw [Part.highLimitTripped, h]

theorem Part.highLimitTripped_of_dry (h : p.cyc.phase = .dry) : p.highLimitTripped =
    Part.changePhase { p.barHeat with
      cyc := { p.barHeat.cyc with cool := ⟨max (p.cyc.coolMinutes * 60) 300, 0⟩ } } .cool := by
  rw [Part.highLimitTripped, h]
  rfl

theorem Part.highLimitTripped_of_start (h : p.cyc.phase = .startWait ∨ p.cyc.phase = .spinup) : p.highLimitTripped =
    Part.requestCheckpoint { p.barHeat with cyc := { p.barHeat.cyc with
      target := .cool
      cool := ⟨if p.cyc.target = .cool then max p.cyc.cool.seconds 300 else max (p.cyc.coolMinutes * 60) 300,
        p.cyc.cool.part⟩ } } := by
  obtain h | h := h
  · rw [Part.highLimitTripped, h]; rfl
  · rw [Part.highLimitTripped, h]; rfl

theorem Part.highLimitTripped_of_cool (h : p.cyc.phase = .cool) : p.highLimitTripped =
    Part.requestCheckpoint { p.barHeat with
      cyc := { p.barHeat.cyc with cool := ⟨max p.cyc.cool.seconds 300, p.cyc.cool.part⟩ } } := by
  rw [Part.highLimitTripped, h]
  rfl

theorem Part.highLimitTripped_of_cold
    (h : p.cyc.phase = .rest ∨ p.cyc.phase = .burstWait ∨ p.cyc.phase = .burst ∨ p.cyc.phase = .halted) :
    p.highLimitTripped = p.barHeat.requestCheckpoint := by
  obtain h | h | h | h := h <;> rw [Part.highLimitTripped, h]

end Faults

/-- Settles O43, phase by phase. -/
theorem doorAndHighLimit : Obligations.DoorAndHighLimit := by
  intro p told barred
  have hbarred : p.barHeat = { p with ntc := told, cyc := barred } := p.barHeat_eq
  refine ⟨fun h => ⟨Part.doorOpened_of_idle h, Part.highLimitTripped_of_idle h⟩,
    fun h => Part.doorOpened_of_outcome ?_, fun h => Part.doorOpened_of_outcome (Cycle.doorOutcome_of_start h),
    fun h => Part.doorOpened_of_outcome (Cycle.doorOutcome_of_dried h), fun h => Part.doorOpened_of_outcome ?_,
    fun h => ?_, fun h => ?_, fun h => ?_, fun h => ?_⟩
  · rw [Cycle.doorOutcome, h]
  · rw [Cycle.doorOutcome, h]
  · rw [Part.highLimitTripped_of_dry h, hbarred]
    rfl
  · rw [Part.highLimitTripped_of_start h, hbarred]
    rfl
  · rw [Part.highLimitTripped_of_cool h, hbarred]
  · rw [Part.highLimitTripped_of_cold h, hbarred]

end Sys2Proof.Machine

namespace Sys2Proof.Machine

/-! ### The rotation watch -/

section Watch
variable {p : Part}

theorem effectOf_tachPulse_of_none (h : p.gate.watch = .none) : effectOf .tachPulse p = p := by
  simp only [effectOf, onTachPulse, h, ite_self]

theorem effectOf_tachPulse_of_running (hworks : p.works) (h : p.gate.watch = .running) :
    effectOf .tachPulse p = { p with gate := { p.gate with rotation := .running 0 } } := by
  simp only [effectOf, onTachPulse, h, if_pos hworks]

theorem effectOf_tachPulse_of_confirming (hworks : p.works) (h : p.gate.watch = .confirming) :
    effectOf .tachPulse p = Part.settle (Part.rotationConfirmed
      { p with gate := { p.gate with watch := .running, rotation := .running 0 } }) := by
  simp only [effectOf, onTachPulse, h, if_pos hworks]

theorem Part.rotationConfirmed_of_dry (hrun : p.engineRuns) (hspinup : p.cyc.phase = .spinup)
    (htarget : p.cyc.target = .dry) : p.rotationConfirmed = Part.changePhase { p with cyc := { p.cyc with
      target := .none, starvation := 0, starvationReported := false, credit := 0 } } .dry := by
  rw [Part.rotationConfirmed, if_pos ⟨hrun, hspinup⟩, htarget]

theorem Part.rotationConfirmed_of_cool (hrun : p.engineRuns) (hspinup : p.cyc.phase = .spinup)
    (htarget : p.cyc.target = .cool) : p.rotationConfirmed = Part.changePhase { p with cyc := { p.cyc with
      target := .none, cool := ⟨p.cyc.cool.seconds, 0⟩ } } .cool := by
  rw [Part.rotationConfirmed, if_pos ⟨hrun, hspinup⟩, htarget]

/-- Only a start in SPINUP waits for the confirmation (R76, R97). -/
theorem Part.rotationConfirmed_of_other (h : p.cyc.phase ≠ .spinup) : p.rotationConfirmed = p := if_neg fun k => h k.2

/-- R84, with the burst of R100. -/
theorem Part.haltCycle_eq (p : Part) (fault : FaultKind) : p.haltCycle fault = Part.changePhase
    { p.notifyFault fault with cyc := { p.cyc with
      target := .none
      burst := if p.cyc.burst.seconds = 1 ∧ 1000 ≤ p.cyc.burst.part then ⟨0, 0⟩ else p.cyc.burst } } .halted := by
  rw [← Countdown.settled_eq]
  rfl

/-- R114: MOTOR goes off, and in the phases that wait for the rotation the cycle halts. -/
theorem effectOf_noRotation (hworks : p.works) (hwatch : p.gate.watch = .confirming)
    (hdue : p.gate.rotation.isDue rotationLimit = true) : effectOf .noRotation p =
      Part.settle (if p.engineRuns ∧ (p.cyc.phase = .spinup ∨ p.cyc.phase = .burst)
        then Part.haltCycle { p with gate := p.gate.motorOff } .noRotation
        else { p with gate := p.gate.motorOff }) := if_pos ⟨hworks, hwatch, hdue⟩

/-- R115: MOTOR goes off, and in the phases that need the rotation the cycle halts. -/
theorem effectOf_rotationLost (hworks : p.works) (hwatch : p.gate.watch = .running)
    (hdue : p.gate.rotation.isDue rotationLimit = true) : effectOf .rotationLost p =
      Part.settle (if p.engineRuns ∧ (p.cyc.phase = .dry ∨ p.cyc.phase = .cool ∨ p.cyc.phase = .burst)
        then Part.haltCycle { p with gate := p.gate.motorOff } .rotationLost
        else { p with gate := p.gate.motorOff }) := if_pos ⟨hworks, hwatch, hdue⟩

/-- A pulse taken first leaves nothing to report (R115). -/
theorem effectOf_rotation_of_not_due (h : ¬ p.gate.rotation.isDue rotationLimit = true) :
    effectOf .noRotation p = p ∧ effectOf .rotationLost p = p :=
  ⟨if_neg fun k => h k.2.2, if_neg fun k => h k.2.2⟩

end Watch

/-- Settles O47, by what the gate watches TACH for. -/
theorem rotation : Obligations.Rotation := by
  intro s on off n hworks hon hoff expired halted
  subst hon hoff
  have hdue (h : expired) : s.gate.rotation.isDue rotationLimit = true := Timer.isDue_of_running h.1 h.2
  have hpulse {q : Part} (hwatch : s.gate.watch = .confirming) (h : Part.rotationConfirmed
      { s.toPart with gate := { s.gate with watch := .running, rotation := .running 0 } } = q) :
      effectOf .tachPulse s.toPart = q.settle := by rw [effectOf_tachPulse_of_confirming hworks hwatch, h]
  refine ⟨fun hwatch => exec_eq_self (effectOf_tachPulse_of_none hwatch),
    fun hwatch => exec_eq_of_effect (effectOf_tachPulse_of_running hworks hwatch),
    fun hwatch hrun hspinup htarget => exec_eq_of_effect (hpulse hwatch ?_),
    fun hwatch hrun hspinup htarget => exec_eq_of_effect (hpulse hwatch ?_),
    fun hwatch hphase => exec_eq_of_effect (hpulse hwatch (Part.rotationConfirmed_of_other hphase)),
    fun hwatch hexp hrun hphase => exec_eq_of_effect ?_, fun hwatch hexp hspinup hburst => exec_eq_of_effect ?_,
    fun hwatch hexp hrun hphase => exec_eq_of_effect ?_, fun hwatch hexp hdry hcool hburst => exec_eq_of_effect ?_,
    fun ht hn => ?_⟩
  · exact Part.rotationConfirmed_of_dry hrun hspinup htarget
  · exact Part.rotationConfirmed_of_cool hrun hspinup htarget
  · rw [effectOf_noRotation hworks hwatch (hdue hexp), if_pos ⟨hrun, hphase⟩, Part.haltCycle_eq]
    rfl
  · rw [effectOf_noRotation hworks hwatch (hdue hexp), if_neg fun k => k.2.elim hspinup hburst]
    rfl
  · rw [effectOf_rotationLost hworks hwatch (hdue hexp), if_pos ⟨hrun, hphase⟩, Part.haltCycle_eq]
    rfl
  · rw [effectOf_rotationLost hworks hwatch (hdue hexp),
      if_neg fun k => k.2.elim hdry fun k => k.elim hcool hburst]
    rfl
  · obtain ⟨hno, hlost⟩ := effectOf_rotation_of_not_due (p := s.toPart) (Timer.not_isDue_of_running ht hn)
    exact ⟨exec_eq_self hno, exec_eq_self hlost⟩

end Sys2Proof.Machine

namespace Sys2Proof.Machine

/-! ### BEGIN, TRIM and CANCEL -/

section Requests
variable {p : Part} {g : Program} {m : Byte}

theorem Program.inRange_iff : g.inRange ↔ (1 ≤ g.dryTime ∧ g.dryTime ≤ 240) ∧ (1 ≤ g.stages ∧ g.stages ≤ 2) ∧
    g.coolTime ≤ 30 ∧ g.window ≤ 720 ∧ (5 ≤ g.burst ∧ g.burst ≤ 60) ∧ (1 ≤ g.rest ∧ g.rest ≤ 30) := by
  simp only [Program.inRange, and_assoc]

theorem Part.runBegin_of_not_mayBegin (h : ¬ p.mayBegin) : p.runBegin g = p.answer .state [] := if_pos h

theorem Part.runBegin_of_outOfRange (h : p.mayBegin) (hr : ¬ g.inRange) : p.runBegin g = p.answer .range [] :=
  (if_neg (not_not_intro h)).trans (if_pos hr)

theorem Part.runBegin_of_inRange (h : p.mayBegin) (hr : g.inRange) : p.runBegin g =
    Part.settle (Part.answer (Part.changePhase { p with cyc := p.cyc.begun g } .startWait) .done []) :=
  (if_neg (not_not_intro h)).trans (if_neg (not_not_intro hr))

theorem Part.runTrim_of_not_dry (h : ¬ (p.sup.power = .run ∧ p.cyc.phase = .dry)) : p.runTrim m = p.answer .state [] :=
  if_pos h

theorem Part.runTrim_of_outOfRange (h : p.sup.power = .run ∧ p.cyc.phase = .dry) (hm : 240 < m.toNat) :
    p.runTrim m = p.answer .range [] := (if_neg (not_not_intro h)).trans (if_pos hm)

theorem Part.runTrim_of_inRange (h : p.sup.power = .run ∧ p.cyc.phase = .dry) (hm : m.toNat ≤ 240) :
    p.runTrim m = Part.settle ((p.trimmed m.toNat).answer .done []) :=
  (if_neg (not_not_intro h)).trans (if_neg hm.not_gt)

theorem Part.runCancel_of_no_cycle (h : ¬ (p.sup.power = .run ∧ p.cyc.phase ≠ .idle)) :
    p.runCancel = p.answer .state [] := if_neg h

theorem Part.runCancel_of_cycle (hrun : p.sup.power = .run) (h : p.cyc.phase ≠ .idle) : p.runCancel = Part.settle
    ((p.endCycle (if p.cyc.phase = .halted then .faulted else .cancelled)).answer .done []) := if_pos ⟨hrun, h⟩

end Requests

/-- Settles O35, by the two refusals in their order. -/
theorem begin : Obligations.Begin := by
  intro s dry st cool w bu re hworks hport g may ranges
  have hbegin : effectOf (.beginCycle dry st cool w bu re) s.toPart = Part.runBegin g (s.toPart.taking 8) :=
    Part.request_of_free 8 _ hworks hport
  refine ⟨fun hmay => exec_eq_of_effect (hbegin.trans (Part.runBegin_of_not_mayBegin hmay)),
    fun hmay hranges => exec_eq_of_effect (hbegin.trans (Part.runBegin_of_outOfRange hmay ?_)),
    fun hmay hranges => exec_eq_of_effect (hbegin.trans (Part.runBegin_of_inRange hmay ?_))⟩
  · exact fun h => hranges (Program.inRange_iff.mp h)
  · exact Program.inRange_iff.mpr hranges

/-- Settles O36, by the refusals of each request. -/
theorem trimAndCancel : Obligations.TrimAndCancel := by
  intro s m hworks hport
  have htrim : effectOf (.trim m) s.toPart = Part.runTrim m (s.toPart.taking 2) :=
    Part.request_of_free 2 _ hworks hport
  have hcancel : effectOf .cancel s.toPart = Part.runCancel (s.toPart.taking 1) :=
    Part.request_of_free 1 _ hworks hport
  refine ⟨fun h => exec_eq_of_effect (htrim.trans (Part.runTrim_of_not_dry h)),
    fun hrun hdry hm => exec_eq_of_effect (htrim.trans (Part.runTrim_of_outOfRange ⟨hrun, hdry⟩ hm)),
    fun hrun hdry hm q hq => exec_eq_of_effect (htrim.trans ?_),
    fun h => exec_eq_of_effect (hcancel.trans (Part.runCancel_of_no_cycle h)),
    fun hrun h => exec_eq_of_effect (hcancel.trans (Part.runCancel_of_cycle hrun h))⟩
  rw [hq]
  exact Part.runTrim_of_inRange (p := s.toPart.taking 2) ⟨hrun, hdry⟩ hm

end Sys2Proof.Machine

namespace Sys2Proof.Machine

/-! ### Debounced changes of the inputs -/

section Inputs
variable {p : Part} {i : Input} {b : Bool}

theorem effectOf_inputChange_of_level (hworks : p.works) (h : p.inp.level.get i = b) :
    effectOf (.inputChange i b) p = { p with pins := { p.pins with level := p.pins.level.with i b } } := by
  have hstandby : ¬ (p.sup.power = .standby ∧ b = true) := fun k => by simp [Part.works, k.1] at hworks
  exact (if_neg fun k => k.2 h).trans (Part.watchedInStandby_of_not hstandby)

/-- The pin, the level and the delta flag first, then what the blocks make of the change, then its notice (R174;
log 15, log 23). -/
theorem effectOf_inputChange_of_change (hworks : p.works) (h : p.inp.level.get i ≠ b) :
    effectOf (.inputChange i b) p = Part.settle (Part.notifyChange (Part.inputTaken { p with
      pins := { p.pins with level := p.pins.level.with i b }
      inp := ⟨p.inp.level.with i b, p.inp.delta.with i true⟩ } i b) i b) := if_pos ⟨hworks, h⟩

theorem Part.notifyChange_of_told (h : i ≠ .exhaustHot) :
    p.notifyChange i b = p.notifyOwn .inputChange (some (changeValue i b)) := if_neg h

theorem Part.notifyChange_of_untold (h : i = .exhaustHot) : p.notifyChange i b = p := if_pos h

theorem changeValue_mains (b : Bool) : changeValue .mains b = if b = true then 8 else 24 := by cases b <;> rfl

theorem Part.doorChanged_of_run (h : p.sup.power = .run) : p.doorChanged true = p.doorOpened := if_pos h

theorem Part.doorChanged_of_latches (h : p.sup.latches) : p.doorChanged true = p.latchDoor := by
  have hrun : p.sup.power ≠ .run := fun hrun => by simp [Supply.latches, hrun] at h
  exact (if_neg hrun).trans (if_pos h)

/-- A cold start has no door latch (R130). -/
theorem Part.doorChanged_of_cold (hcold : p.sup.warm = false) (h : p.sup.power = .settle ∨ p.sup.power = .qualify) :
    p.doorChanged true = p := by
  have hrun : p.sup.power ≠ .run := fun hrun => by simp [hrun] at h
  have hlatches : ¬ p.sup.latches := fun k => by
    obtain k | k | k := k
    · simp [k] at h
    · simp [k] at h
    · simp [hcold] at k
  exact (if_neg hrun).trans (if_neg hlatches)

theorem Part.highLimitChanged_of_run (h : p.sup.power = .run) : p.highLimitChanged true = p.highLimitTripped :=
  if_pos ⟨rfl, h⟩

theorem Part.highLimitChanged_of_other (h : ¬ (b = true ∧ p.sup.power = .run)) : p.highLimitChanged b = p := if_neg h

/-- A stage past its min-on goes off, and so does one energized at this very moment (R109; R116, log 1). -/
theorem StageGate.heated_eq (g : StageGate) : g.heated =
    if g.on = true then
      if 10000 ≤ g.minOn ∨ g.minOn = 0 then ⟨false, 0, if g.minOn = 0 then .reached else .running 0, false⟩
      else { g with turnOffPending := true }
    else g := rfl

/-- An absence timer that has reached its 40 ms in RUN is not stopped (R122; R116, log 34). -/
theorem Part.mainsChanged_of_due (hrun : p.sup.power = .run) (h : p.sup.absence.isDue absenceLimit = true) :
    p.mainsChanged b = p := (if_pos hrun).trans (if_pos h)

theorem Part.mainsChanged_of_run (hrun : p.sup.power = .run) (h : ¬ p.sup.absence.isDue absenceLimit = true) :
    p.mainsChanged b = { p with sup := { p.sup with absence := if b = true then .stopped else .running 0 } } :=
  (if_pos hrun).trans (if_neg h)

theorem Part.mainsChanged_of_qualify (h : p.sup.power = .qualify) : p.mainsChanged b = { p with sup := { p.sup with
    absence := if b = true then .stopped else .running 0
    qualification := if b = true then .running 0 else .stopped } } :=
  (if_neg (by simp [h])).trans (if_pos h)

theorem Part.mainsChanged_of_other (h : p.sup.power = .ride ∨ p.sup.power = .settle) : p.mainsChanged b = p :=
  (if_neg fun k => by simp [k] at h).trans (if_neg fun k => by simp [k] at h)

end Inputs

/-- Settles O45, input by input. -/
theorem inputChange : Obligations.InputChange := by
  intro s i b p hp hworks hot cold
  have hhot (g : StageGate) : g.heated = hot g := g.heated_eq
  have hcold (g : StageGate) : g.cooled = cold g := g.cooled_eq
  refine ⟨fun h => ?_, fun hchange => ?_⟩
  · rw [hp]
    exact exec_eq_of_effect (effectOf_inputChange_of_level hworks h)
  have htaken : exec (.inputChange i b) s =
      .next { s with toPart := Part.settle (Part.notifyChange (p.inputTaken i b) i b) } := by
    rw [hp]
    exact exec_eq_of_effect (effectOf_inputChange_of_change hworks hchange)
  have htold {q : Part} {v : Nat} (hi : i ≠ .exhaustHot) (hq : p.inputTaken i b = q) (hv : changeValue i b = v) :
      exec (.inputChange i b) s =
        .next { s with toPart := Part.settle (q.notifyOwn .inputChange (some v)) } := by
    rw [htaken, hq, Part.notifyChange_of_told hi, hv]
  have huntold {q : Part} (hi : i = .exhaustHot) (hq : p.inputTaken i b = q) :
      exec (.inputChange i b) s = .next { s with toPart := q.settle } := by
    rw [htaken, hq, Part.notifyChange_of_untold hi]
  subst hp
  refine ⟨?_, ?_, ?_, ?_, ?_, ?_, ?_, ?_, ?_, ?_, ?_, ?_, ?_⟩
  · rintro rfl rfl hrun
    exact htold nofun (Part.doorChanged_of_run hrun) rfl
  · rintro rfl rfl h
    exact htold nofun (Part.doorChanged_of_latches (h.imp_right .inr)) rfl
  · rintro rfl rfl hwarm h
    exact htold nofun (Part.doorChanged_of_cold hwarm h) rfl
  · rintro rfl rfl
    exact htold nofun rfl rfl
  · rintro rfl rfl hrun
    exact htold nofun (Part.highLimitChanged_of_run hrun) rfl
  · rintro rfl rfl hrun
    exact htold nofun (Part.highLimitChanged_of_other fun k => hrun k.2) rfl
  · rintro rfl rfl
    exact htold nofun (Part.highLimitChanged_of_other nofun) rfl
  · rintro rfl rfl
    rw [← hhot, ← hhot]
    exact huntold rfl rfl
  · rintro rfl rfl
    rw [← hcold, ← hcold]
    exact huntold rfl rfl
  · rintro rfl hrun n ht hn
    exact htold nofun (Part.mainsChanged_of_due hrun (Timer.isDue_of_running ht hn)) (changeValue_mains b)
  · rintro rfl hrun hrunning
    refine htold nofun (Part.mainsChanged_of_run hrun fun hdue => ?_) (changeValue_mains b)
    obtain ⟨n, ht, hn⟩ := Timer.isDue_iff.mp hdue
    exact hn.not_gt (hrunning n ht)
  · rintro rfl hqualify
    exact htold nofun (Part.mainsChanged_of_qualify hqualify) (changeValue_mains b)
  · rintro rfl h
    exact htold nofun (Part.mainsChanged_of_other h) (changeValue_mains b)

end Sys2Proof.Machine

namespace Sys2Proof.Machine

/-! ### Rest, bursts and the window run out -/

section Tumbling
variable {p : Part}

theorem Countdown.lastOver_iff {c : Countdown} : c.lastOver = true ↔ c.seconds = 1 ∧ 1000 ≤ c.part :=
  decide_eq_true_iff

theorem effectOf_restExpiry (hrun : p.engineRuns) (hrest : p.cyc.phase = .rest) (hwindow : 0 < p.cyc.window.seconds)
    (hover : p.cyc.rest.isDue = true) : effectOf .restExpiry p =
      Part.settle (Part.changePhase { p with cyc := { p.cyc with rest := ⟨0, 0⟩ } } .burstWait) :=
  if_pos ⟨hrun, hrest, hwindow, hover⟩

/-- While the window lasts a burst is followed by another rest (R98). -/
theorem Part.endBurst_of_window (h : 0 < p.cyc.window.seconds) : p.endBurst = Part.changePhase { p with
    cyc := { p.cyc with burst := ⟨0, 0⟩, rest := ⟨p.cyc.restMinutes * 60, 0⟩ } } .rest := if_pos h

/-- The window ran out during the burst (R98, R99). -/
theorem Part.endBurst_of_no_window (h : p.cyc.window.seconds = 0) : p.endBurst =
    Part.endCycle { p with cyc := { p.cyc with burst := ⟨0, 0⟩ } } p.cyc.completion := if_neg h.not_gt

theorem effectOf_burstEnd (hrun : p.engineRuns) (hburst : p.cyc.phase = .burst) (hover : p.cyc.burst.isDue = true) :
    effectOf .burstEnd p = p.endBurst.settle := if_pos ⟨hrun, hburst, hover⟩

/-- With the drum at rest the end of the window ends the cycle (R99). -/
theorem effectOf_windowExpiry_of_still (hrun : p.engineRuns)
    (hphase : p.cyc.phase = .rest ∨ p.cyc.phase = .burstWait) (hover : p.cyc.window.lastOver = true) :
    effectOf .windowExpiry p =
      Part.settle (Part.endCycle { p with cyc := { p.cyc with window := ⟨0, 0⟩ } } p.cyc.completion) :=
  if_pos ⟨hrun, hover, hphase⟩

/-- A burst is turned out in full: the end of the window inside it only takes the window's last second (R99). -/
theorem effectOf_windowExpiry_of_burst (hrun : p.engineRuns) (hburst : p.cyc.phase = .burst)
    (hover : p.cyc.window.lastOver = true) :
    effectOf .windowExpiry p = { p with cyc := { p.cyc with window := ⟨0, 0⟩ } } :=
  (if_neg fun k => by simp [hburst] at k).trans (if_pos ⟨hrun, hover, hburst⟩)

end Tumbling

/-- Settles O42: each counter's end in the phases that take it, the end of a burst by whether the window lasts. -/
theorem tumbling : Obligations.Tumbling := by
  intro s hrun isOver windowOver
  refine ⟨fun hrest hwindow hover => exec_eq_of_effect ?_, fun hburst hwindow hover => exec_eq_of_effect ?_,
    fun hburst hwindow hover => exec_eq_of_effect ?_, fun hphase hover => exec_eq_of_effect ?_,
    fun hburst hover => exec_eq_of_effect ?_⟩
  · exact effectOf_restExpiry hrun hrest hwindow (Countdown.isDue_iff.mpr hover)
  · rw [effectOf_burstEnd hrun hburst (Countdown.isDue_iff.mpr hover), Part.endBurst_of_window hwindow]
    rfl
  · rw [effectOf_burstEnd hrun hburst (Countdown.isDue_iff.mpr hover), Part.endBurst_of_no_window hwindow]
    rfl
  · exact effectOf_windowExpiry_of_still hrun hphase (Countdown.lastOver_iff.mpr hover)
  · exact effectOf_windowExpiry_of_burst hrun hburst (Countdown.lastOver_iff.mpr hover)

end Sys2Proof.Machine

namespace Sys2Proof.Machine

/-! ### Every step leaves the derived state worked out -/

/-- Settles O57: every command and every millisecond leave a settled part settled, and the choice of a free value touches
nothing the rules look at. -/
theorem everyStepLeavesAPartSettled : Obligations.EveryStepLeavesAPartSettled := fun _ _ => step_settled

/-! ### The gate's timers -/

section GateTimers
variable {p : Part} {n : HeatStage}

theorem effectOf_heatMinOffElapsed (hworks : p.works) (hdue : (p.gate.stage n).minOff.isDue heatMinOffLimit = true) :
    effectOf (.heatMinOffElapsed n) p =
      Part.settle { p with gate := p.gate.withStage n { p.gate.stage n with minOff := .reached } } :=
  if_pos ⟨hworks, hdue⟩

theorem effectOf_motorMinOffElapsed (hworks : p.works) (hdue : p.gate.motorMinOff.isDue motorMinOffLimit = true) :
    effectOf .motorMinOffElapsed p = Part.settle { p with gate := { p.gate with motorMinOff := .reached } } :=
  if_pos ⟨hworks, hdue⟩

/-- A stage on for some time goes off with its min-off from 0 (R108). -/
theorem StageGate.deenergized_of_minOn_pos {g : StageGate} (h : 0 < g.minOn) :
    g.deenergized = ⟨false, 0, .running 0, false⟩ :=
  congrArg (StageGate.mk false 0 · false) (if_neg h.ne')

/-- The turn-off that waited for min-on is carried out if EXHAUST HOT is still active, and dropped if not (R109). -/
theorem StageGate.minOnReached_eq {g : StageGate} (h : 10000 ≤ g.minOn) (hot : Bool) : g.minOnReached hot =
    if hot = true then ⟨false, 0, .running 0, false⟩ else { g with minOn := 10000, turnOffPending := false } := by
  rw [StageGate.minOnReached, StageGate.deenergized_of_minOn_pos (by omega)]
  rfl

theorem effectOf_heatMinOnReached (hworks : p.works) (hon : (p.gate.stage n).on = true)
    (hpending : (p.gate.stage n).turnOffPending = true) (hmin : 10000 ≤ (p.gate.stage n).minOn) :
    effectOf (.heatMinOnReached n) p = Part.settle { p with
      gate := p.gate.withStage n (if p.inp.level.exhaustHot = true then ⟨false, 0, .running 0, false⟩
        else { p.gate.stage n with minOn := 10000, turnOffPending := false }) } := by
  rw [← StageGate.minOnReached_eq hmin]
  exact if_pos ⟨hworks, hon, hpending, hmin⟩

theorem effectOf_thermostatGraceExpiry (hworks : p.works) (hruns : p.graceRuns) (hgrace : 30000 ≤ p.gate.grace) :
    effectOf .thermostatGraceExpiry p = Part.settle { p with gate := { p.gate with grace := 30000, report := true } } :=
  if_pos ⟨hworks, hruns, hgrace⟩

end GateTimers

/-- Settles O46, timer by timer, with one argument for both stages. -/
theorem gateTimers : Obligations.GateTimers := by
  intro s n hworks
  refine ⟨fun ht hn => exec_eq_of_effect ?_, fun ht hn => exec_eq_of_effect ?_,
    fun ht hn => exec_eq_of_effect ?_, fun hon hpending hmin => exec_eq_of_effect ?_,
    fun hon hpending hmin => exec_eq_of_effect ?_, fun hhot hdry hheld hreport hgrace => exec_eq_of_effect ?_⟩
  · exact effectOf_heatMinOffElapsed (n := .one) hworks (Timer.isDue_of_running ht hn)
  · exact effectOf_heatMinOffElapsed (n := .two) hworks (Timer.isDue_of_running ht hn)
  · exact effectOf_motorMinOffElapsed hworks (Timer.isDue_of_running ht hn)
  · exact effectOf_heatMinOnReached (n := .one) hworks hon hpending hmin
  · exact effectOf_heatMinOnReached (n := .two) hworks hon hpending hmin
  · exact effectOf_thermostatGraceExpiry hworks ⟨hhot, hdry, hheld, hreport⟩ hgrace

end Sys2Proof.Machine

namespace Sys2Proof.Machine

/-! ### The start read and the resume decision -/

/-- What the start read finds (R141). -/
def Journal.readIn (j : Journal) (own : Station) : Journal := { j with
  newest := (j.chosen own).map (·.1)
  newestSequence := (j.chosen own).map (·.2.sequence)
  tornA := j.slotA.isTorn
  tornB := j.slotB.isTorn
  startRead := false
  elapsed := 0 }

/-- The start read with the torn slots it tells of (R141, R142). -/
theorem Part.completeStartRead_eq (p : Part) : p.completeStartRead = { p with
    jrn := p.jrn.readIn p.station
    ntc := if p.jrn.slotA.isTorn.toNat + p.jrn.slotB.isTorn.toNat = 0 then p.ntc
      else p.ntc.arrive (triggerOf p.ctl.config)
        ⟨.tornSlot, p.station, .idle, some (p.jrn.slotA.isTorn.toNat + p.jrn.slotB.isTorn.toNat)⟩ } := by
  by_cases hnone : p.jrn.slotA.isTorn.toNat + p.jrn.slotB.isTorn.toNat = 0
  · rw [if_pos hnone]
    exact if_pos hnone
  · rw [if_neg hnone]
    exact if_neg hnone

/-- A READ CHECKPOINT held for the start read is answered from what it found; nothing else is added (R141, R168). -/
theorem Part.finishStartRead_eq (p : Part) : p.finishStartRead = { p.completeStartRead with
    port := if p.port.held = some .readCheckpoint
      then ⟨.replyReady, none, 0 :: p.finishStartRead.jrn.checkpointBytes, p.port.sdo⟩ else p.port } := by
  have hport := p.completeStartRead_port
  by_cases hheld : p.port.held = some .readCheckpoint
  · have hanswer : p.finishStartRead = p.completeStartRead.answerCheckpoint := if_pos (hport ▸ hheld)
    rw [if_pos hheld, hanswer, ← hport]
    rfl
  · have hnone : p.finishStartRead = p.completeStartRead := if_neg (hport ▸ hheld)
    rw [if_neg hheld, hnone, ← hport]

theorem Part.finishStartRead_jrn (p : Part) : p.finishStartRead.jrn = p.jrn.readIn p.station := by
  rw [Part.finishStartRead_eq, Part.completeStartRead_eq]

/-! #### The slots -/

theorem Record.inRange_iff (r : Record) : r.inRange ↔
    ((1 ≤ r.config.budget ∧ r.config.budget ≤ 32) ∧ (2 ≤ r.config.spacing ∧ r.config.spacing ≤ 10) ∧
      r.config.reheat ≤ 15 ∧ (1 ≤ r.config.limit ∧ r.config.limit ≤ 8) ∧
      (r.config.trigger = 1 ∨ r.config.trigger = 2 ∨ r.config.trigger = 4 ∨ r.config.trigger = 8)) ∧
    (∀ g, r.program = some g → (1 ≤ g.dryTime ∧ g.dryTime ≤ 240) ∧ (1 ≤ g.stages ∧ g.stages ≤ 2) ∧
      g.coolTime ≤ 30 ∧ g.window ≤ 720 ∧ (5 ≤ g.burst ∧ g.burst ≤ 60) ∧ (1 ≤ g.rest ∧ g.rest ≤ 30)) ∧
    r.remainingDry ≤ 14400 ∧ r.remainingCool ≤ 1800 ∧ r.windowRemaining ≤ 43200 ∧ r.restRemaining ≤ 1800 ∧
    r.burstRemaining ≤ 60 ∧ r.resumeCount ≤ 8 := by
  rw [Record.inRange, Configuration.inRange_iff]
  simp only [Program.inRange_iff, Option.mem_def]

theorem Slot.validRecord_eq_some_iff {x : Slot} {own : Station} {r : Record} : x.validRecord own = some r ↔
    x = .record r ∧ r.checkAgrees ∧ r.inRange ∧ r.station = own := by
  cases x with
  | erased => simp [Slot.validRecord]
  | torn => simp [Slot.validRecord]
  | record y =>
    rw [Slot.validRecord, Option.ite_none_right_eq_some, Option.some.injEq, Slot.record.injEq, and_comm]
    constructor
    · rintro ⟨rfl, h⟩; exact ⟨rfl, h⟩
    · rintro ⟨rfl, h⟩; exact ⟨rfl, h⟩

theorem Slot.isTorn_iff {x : Slot} : x.isTorn = true ↔
    x = .torn ∨ ∃ y, x = .record y ∧ ¬ (y.checkAgrees ∧ y.inRange) := by
  cases x with
  | erased => simp [Slot.isTorn]
  | torn => simp [Slot.isTorn]
  | record y =>
    simp only [Slot.isTorn, Bool.not_eq_true', decide_eq_false_iff_not, reduceCtorEq, false_or, Slot.record.injEq,
      exists_eq_left']

theorem Journal.newestRecord_eq_some_iff {j : Journal} {r : Record} :
    j.newestRecord = some r ↔ ∃ n, j.newest = some n ∧ j.slot n = .record r := by
  unfold Journal.newestRecord
  cases hn : j.newest with
  | none => simp
  | some n => cases hs : j.slot n <;> simp [hs]

/-! #### The decision -/

/-- The part with the decision's resume items (R148, R150). -/
def Part.withOutage (p : Part) (outage : Option Nat) : Part := { p with res := { p.res with
  decided := true, lastOutage := outageOf outage, lastClass := some (classOf outage) } }

/-- The decision on record `r`, up to its checkpoint request (R151 to R159). -/
def Part.decidedOn (p : Part) (r : Record) (outage : Option Nat) (latch : Bool) : Part :=
  (Part.notifyResume { (p.withOutage outage).takeCheckpointConfig r with
    cyc := Cycle.placed r (r.place outage latch p.freeCount)
    freeCount := p.freeCount + 2 } outage).notifyEnded r (r.place outage latch p.freeCount)

section Decision
variable {p : Part} {r : Record} (outage : Option Nat) (latch : Bool)

theorem Part.resumeDecision_of_none (h : p.jrn.newestRecord = none) : p.resumeDecision outage latch =
    (((p.withOutage outage).notifyResume outage).requestCheckpoint).inputsAtDecision := by
  unfold Part.resumeDecision
  dsimp only
  rw [h]
  rfl

theorem Part.resumeDecision_of_record (h : p.jrn.newestRecord = some r) : p.resumeDecision outage latch =
    (p.decidedOn r outage latch).requestCheckpoint.inputsAtDecision := by
  unfold Part.resumeDecision
  dsimp only
  rw [h]
  dsimp only
  rw [Part.takeCheckpointConfig_freeCount]
  rfl

/-- The configuration becomes the record's, and UNCONFIGURED becomes LISTENING (R151). -/
theorem Part.takeCheckpointConfig_ctl (p : Part) (r : Record) :
    (p.takeCheckpointConfig r).ctl.config = some r.config ∧
    (p.ctl.standing = .unconfigured → (p.takeCheckpointConfig r).ctl.standing = .listening ∧
      (p.takeCheckpointConfig r).ctl.listen = .running 0) ∧
    (p.ctl.standing ≠ .unconfigured → (p.takeCheckpointConfig r).ctl.standing = p.ctl.standing) := by
  have hstanding : (p.setConfig (some r.config)).ctl.standing = p.ctl.standing := by rw [Part.setConfig_ctl]
  have hconfig : (p.setConfig (some r.config)).ctl.config = some r.config := by rw [Part.setConfig_ctl]
  by_cases h : p.ctl.standing = .unconfigured
  · have heq : p.takeCheckpointConfig r = (p.setConfig (some r.config)).enterStanding .listening :=
      if_pos (hstanding.trans h)
    rw [heq]
    exact ⟨hconfig, fun _ => ⟨rfl, rfl⟩, fun k => absurd h k⟩
  · have heq : p.takeCheckpointConfig r = p.setConfig (some r.config) := if_neg (hstanding ▸ h)
    rw [heq]
    exact ⟨hconfig, fun k => absurd k h, fun _ => hstanding⟩

theorem Part.decidedOn_ctl (p : Part) (r : Record) :
    (p.decidedOn r outage latch).ctl = ((p.withOutage outage).takeCheckpointConfig r).ctl := by
  rw [Part.decidedOn, Part.notifyEnded_ctl]
  rfl

/-- With the record's configuration taken, a decision with the journal IDLE begins a write (R136, R150). -/
theorem Part.decidedOn_requestCheckpoint (h : p.jrn.operation = none) :
    (p.decidedOn r outage latch).requestCheckpoint = (p.decidedOn r outage latch).beginWrite r.config := by
  have hconfig : (p.decidedOn r outage latch).ctl.config = some r.config := by
    rw [Part.decidedOn_ctl]
    exact (Part.takeCheckpointConfig_ctl _ r).1
  have hidle : (p.decidedOn r outage latch).jrn.operation = none := by
    simp [Part.decidedOn, Part.withOutage, h]
  unfold Part.requestCheckpoint
  rw [hconfig]
  exact if_pos hidle

/-- The decision leaves the other blocks alone (R150 to R159). -/
theorem Part.decidedOn_untouched (p : Part) (r : Record) :
    (p.decidedOn r outage latch).line = p.line ∧ (p.decidedOn r outage latch).roster = p.roster ∧
      (p.decidedOn r outage latch).gate = p.gate ∧ (p.decidedOn r outage latch).sup = p.sup ∧
      (p.decidedOn r outage latch).port = p.port ∧ (p.decidedOn r outage latch).inp = p.inp ∧
      (p.decidedOn r outage latch).pins = p.pins ∧ (p.decidedOn r outage latch).station = p.station ∧
      (p.decidedOn r outage latch).jrn = p.jrn := by
  simp [Part.decidedOn, Part.withOutage]

/-- The decision with both notices written out, a CYCLE END for an ended cycle alone (R158, R159). -/
theorem Part.decidedOn_eq {t u : Part} (ht : t = (p.withOutage outage).takeCheckpointConfig r)
    (hu : u = { t with
      cyc := Cycle.placed r (r.place outage latch p.freeCount)
      ntc := t.ntc.arrive r.config.trigger ⟨.resume, p.station,
        (Cycle.placed r (r.place outage latch p.freeCount)).phase, some (outage.getD 65535)⟩
      freeCount := p.freeCount + 2 }) :
    p.decidedOn r outage latch = match r.place outage latch p.freeCount with
      | .ended o => { u with ntc := u.ntc.arrive r.config.trigger ⟨.cycleEnd, p.station, r.phase, some o.code⟩ }
      | _ => u := by
  have hconfig : t.ctl.config = some r.config := ht ▸ (Part.takeCheckpointConfig_ctl _ r).1
  have htrigger : triggerOf t.ctl.config = r.config.trigger := by rw [hconfig]; rfl
  have hstation : t.station = p.station := by rw [ht, Part.takeCheckpointConfig_station]; rfl
  have hresume : u = Part.notifyResume { t with
      cyc := Cycle.placed r (r.place outage latch p.freeCount)
      freeCount := p.freeCount + 2 } outage := by
    rw [hu, ← htrigger, ← hstation]
    rfl
  have hdecided : p.decidedOn r outage latch = u.notifyEnded r (r.place outage latch p.freeCount) := by
    rw [hresume, ht]
    rfl
  have htriggerU : triggerOf u.ctl.config = r.config.trigger := by rw [hu]; exact htrigger
  have hstationU : u.station = p.station := by rw [hu]; exact hstation
  rw [hdecided, ← htriggerU, ← hstationU]
  cases r.place outage latch p.freeCount <;> rfl

end Decision

/-! #### The end of qualification -/

/-- The decision's outage and latch, with the supply monitor and the path as `p` had them (R120, R147). -/
theorem Part.qualify_eq {p q : Part} (hres : q.res = p.res) (hsup : q.sup = p.sup) : q.qualify =
    Part.settle (Part.resumeDecision { q with sup := p.sup.qualified }
      (if p.res.path = .ret then p.sup.outage else none) (decide (p.res.path = .ret) && p.sup.doorLatch)) := by
  have houtage : q.outageGiven = if q.res.path = .ret then q.sup.outage else none := by
    unfold Part.outageGiven
    cases q.res.path <;> rfl
  have hlatch : q.latchGiven = (decide (q.res.path = .ret) && q.sup.doorLatch) := by
    unfold Part.latchGiven
    cases q.res.path <;> rfl
  rw [← hres, ← hsup, ← houtage, ← hlatch]
  rfl

/-- An unfinished start read is finished before the decision (log 19). -/
theorem effectOf_endOfQualification_eq {p : Part} {n : Nat} (hq : p.sup.power = .qualify)
    (ht : p.sup.qualification = .running n) (hn : 2000 ≤ n) : effectOf .endOfQualification p =
      (if p.jrn.startRead = true then p.finishStartRead else p).qualify := by
  have hdue : p.sup.qualification.isDue qualificationLimit = true := Timer.isDue_of_running ht hn
  rw [apply_ite Part.qualify]
  exact if_pos ⟨hq, hdue⟩

theorem effectOf_startReadComplete {p : Part} (hw : p.works) (hread : p.jrn.startRead = true) :
    effectOf .startReadComplete p = if p.res.path = .stationReset ∧ p.sup.power = .run
      then (p.finishStartRead.resumeDecision none false).settle else p.finishStartRead := by
  rw [← p.finishStartRead_res, ← p.finishStartRead_sup]
  exact if_pos ⟨hw, hread⟩

/-- Settles O51: the start read as one update, the slots by what they hold, and the decision by whether the journal has
a newest record. -/
theorem resumeDecision : Obligations.ResumeDecision := by
  refine ⟨fun s n hq ht hn => exec_eq_of_effect ?_, fun s hw hread => ⟨fun hpath => exec_eq_of_effect ?_,
    fun hpath hrun => exec_eq_of_effect ?_⟩, fun p => ⟨_, rfl, ?_⟩,
    fun x own r => ⟨r.inRange_iff, Slot.validRecord_eq_some_iff, Slot.isTorn_iff⟩, fun x y => decide_eq_true_iff,
    fun j own => rfl, fun j r => Journal.newestRecord_eq_some_iff, ⟨rfl, fun t => rfl⟩,
    fun p outage latch => ?_⟩
  · rw [effectOf_endOfQualification_eq hq ht hn]
    split
    · exact Part.qualify_eq s.finishStartRead_res s.finishStartRead_sup
    · exact Part.qualify_eq rfl rfl
  · exact (effectOf_startReadComplete hw hread).trans (if_neg fun k => hpath k.1)
  · exact (effectOf_startReadComplete hw hread).trans (if_pos ⟨hpath, hrun⟩)
  · conv_lhs => rw [Part.finishStartRead_eq, Part.completeStartRead_eq]
    rfl
  · intro inputs res
    refine ⟨Part.resumeDecision_of_none outage latch, fun r hr c t u v hc ht hu hv => ?_⟩
    have htaken : t = (p.withOutage outage).takeCheckpointConfig r := by rw [ht, hc]; rfl
    have hdecided : v = p.decidedOn r outage latch := hv.trans (Part.decidedOn_eq outage latch htaken hu).symm
    obtain ⟨hconfig, hlistening, hkept⟩ := (p.withOutage outage).takeCheckpointConfig_ctl r
    rw [hdecided, Part.decidedOn_ctl]
    exact ⟨Part.resumeDecision_of_record outage latch hr, Part.decidedOn_requestCheckpoint outage latch, hconfig,
      fun k => (hlistening k).1, fun k => (hlistening k).2, hkept, p.decidedOn_untouched outage latch r⟩

end Sys2Proof.Machine

namespace Sys2Proof.Machine

/-! ### The journal's completions -/

/-- What the journal holds besides the write in hand and the one that waits: all that a checkpoint request leaves
alone (R136). -/
def Journal.stored (j : Journal) : Journal := { j with operation := none, elapsed := 0, pendingWrite := false }

@[simp] theorem Part.requestCheckpoint_stored (p : Part) : p.requestCheckpoint.jrn.stored = p.jrn.stored := by
  unfold Part.requestCheckpoint
  split
  · rfl
  · split <;> rfl

@[simp] theorem Part.changePhase_stored (p : Part) (x : Phase) : (p.changePhase x).jrn.stored = p.jrn.stored :=
  Part.requestCheckpoint_stored _

@[simp] theorem Part.endCycle_stored (p : Part) (o : CycleOutcome) : (p.endCycle o).jrn.stored = p.jrn.stored :=
  Part.requestCheckpoint_stored _

@[simp] theorem Part.doorOpened_stored (p : Part) : p.doorOpened.jrn.stored = p.jrn.stored := by
  cases h : p.cyc.doorOutcome with
  | none => rw [Part.doorOpened, h]
  | some o => rw [Part.doorOpened_of_outcome h, Part.endCycle_stored]

@[simp] theorem Part.highLimitTripped_stored (p : Part) : p.highLimitTripped.jrn.stored = p.jrn.stored := by
  cases h : p.cyc.phase with
  | idle => rw [Part.highLimitTripped_of_idle h]
  | dry => simp [Part.highLimitTripped_of_dry h]
  | startWait => simp [Part.highLimitTripped_of_start (.inl h)]
  | spinup => simp [Part.highLimitTripped_of_start (.inr h)]
  | cool => simp [Part.highLimitTripped_of_cool h]
  | rest => simp [Part.highLimitTripped_of_cold (.inl h)]
  | burstWait => simp [Part.highLimitTripped_of_cold (.inr (.inl h))]
  | burst => simp [Part.highLimitTripped_of_cold (.inr (.inr (.inl h)))]
  | halted => simp [Part.highLimitTripped_of_cold (.inr (.inr (.inr h)))]

@[simp] theorem Part.inputsAtDecision_stored (p : Part) : p.inputsAtDecision.jrn.stored = p.jrn.stored := by
  unfold Part.inputsAtDecision
  dsimp only
  split
  · split <;> simp
  · split <;> simp

/-- The decision touches the journal by checkpoint requests alone (R150). -/
theorem Part.resumeDecision_stored (p : Part) (outage : Option Nat) (latch : Bool) :
    (p.resumeDecision outage latch).jrn.stored = p.jrn.stored := by
  cases h : p.jrn.newestRecord with
  | none =>
    rw [Part.resumeDecision_of_none _ _ h, Part.inputsAtDecision_stored, Part.requestCheckpoint_stored]
    rfl
  | some r =>
    obtain ⟨-, -, -, -, -, -, -, -, hjrn⟩ := p.decidedOn_untouched outage latch r
    rw [Part.resumeDecision_of_record _ _ h, Part.inputsAtDecision_stored, Part.requestCheckpoint_stored, hjrn]

/-- On every path the start read leaves the slots, what it found in them, and at most a checkpoint asked for; the line,
the roster, the supply and the inputs have no part in it (R141, R142, R146). -/
theorem effectOf_startReadComplete_blocks {p : Part} (hw : p.works) (hread : p.jrn.startRead = true) :
    (effectOf .startReadComplete p).jrn.stored = (p.jrn.readIn p.station).stored ∧
    (effectOf .startReadComplete p).line = p.line ∧ (effectOf .startReadComplete p).roster = p.roster ∧
    (effectOf .startReadComplete p).sup = p.sup ∧ (effectOf .startReadComplete p).inp = p.inp ∧
    (effectOf .startReadComplete p).pins = p.pins ∧ (effectOf .startReadComplete p).station = p.station := by
  rw [effectOf_startReadComplete hw hread, ← p.finishStartRead_jrn]
  split
  · simp [Part.resumeDecision_stored]
  · simp

/-! #### The read-back of a write -/

theorem Slot.validRecord_record {r : Record} {own : Station} (hcheck : r.checkAgrees) (hrange : r.inRange)
    (hown : r.station = own) : (Slot.record r).validRecord own = some r :=
  Slot.validRecord_eq_some_iff.mpr ⟨rfl, hcheck, hrange, hown⟩

@[simp] theorem Journal.writeValid_pendingWrite (j : Journal) (n : SlotName) (r : Record) :
    (j.writeValid n r).pendingWrite = j.pendingWrite := by cases n <;> rfl

/-- The journal with slot `n` left torn by its write (R138). -/
def Journal.tornAt (j : Journal) (n : SlotName) : Journal := (j.withSlot n .torn).withTorn n true

@[simp] theorem Journal.tornAt_pendingWrite (j : Journal) (n : SlotName) :
    (j.tornAt n).pendingWrite = j.pendingWrite := by cases n <;> rfl

/-- The first time a write does not read back, it is asked for once more (R138). -/
theorem Journal.writeTorn_of_first {j : Journal} (h : j.retry = false) (n : SlotName) (r : Record) :
    j.writeTorn n r false = { j.tornAt n with retry := true, pendingWrite := true } := by
  simp [Journal.writeTorn, writtenSlot, Journal.tornAt, h]

/-- The second time it is given up (R138). -/
theorem Journal.writeTorn_of_retry {j : Journal} (h : j.retry = true) (n : SlotName) (r : Record) :
    j.writeTorn n r false = { j.tornAt n with retry := false } := by
  have hpending : (j.tornAt n).pendingWrite = (j.pendingWrite || !j.retry) := by simp [h]
  rw [Journal.writeTorn, ← hpending, h]
  rfl

section ReadBack
variable {p : Part} {n : SlotName} {r : Record}

theorem Part.readBack_of_valid (hcheck : r.checkAgrees) (hrange : r.inRange) (hown : r.station = p.station) :
    p.readBack n r true = { p with jrn := p.jrn.writeValid n r } :=
  if_pos (Slot.validRecord_record hcheck hrange hown)

theorem Part.readBack_of_torn (p : Part) (n : SlotName) (r : Record) : p.readBack n r false = { p with
    jrn := p.jrn.writeTorn n r false
    ntc := p.ntc.arrive (triggerOf p.ctl.config)
      ⟨.tornSlot, p.station, p.cyc.phase, some (p.jrn.tornAt n).tornCount⟩ } := if_neg nofun

theorem Part.nextWrite_of_pending {c : Configuration} (hpending : p.jrn.pendingWrite = true)
    (hc : p.ctl.config = some c) :
    p.nextWrite = Part.beginWrite { p with jrn := { p.jrn with pendingWrite := false } } c := by
  rw [Part.nextWrite, hpending, hc]

theorem Part.nextWrite_of_none (hpending : p.jrn.pendingWrite = false) :
    p.nextWrite = Part.onQuiet { p with jrn := { p.jrn with operation := none, elapsed := 0 } } := by
  rw [Part.nextWrite, hpending]

theorem effectOf_writeCompletion (hw : p.works) (ho : p.jrn.operation = some (.write n r)) (good : Bool) :
    effectOf (.writeCompletion good) p = (p.readBack n r good).nextWrite := by
  refine (if_pos hw).trans ?_
  rw [ho]

theorem exec_writeCompletion {s : State} {q : Part} {good : Bool} (hw : s.works)
    (ho : s.jrn.operation = some (.write n r)) (h : (s.toPart.readBack n r good).nextWrite = q) :
    exec (.writeCompletion good) s = .next { s with toPart := q } :=
  exec_eq_of_effect ((effectOf_writeCompletion hw ho good).trans h)

end ReadBack

/-! #### The erases and the aged timer -/

section Completions
variable {p : Part}

theorem Part.answerHeldClear_eq (p : Part) : p.answerHeldClear = { p with
    port := if p.port.held = some .clear then ⟨.replyReady, none, [0], p.port.sdo⟩ else p.port } := by
  unfold Part.answerHeldClear
  split <;> rfl

theorem effectOf_eraseCompletion_of_a (hw : p.works) (ho : p.jrn.operation = some (.erase .a)) :
    effectOf .eraseCompletion p = { p with jrn := { p.jrn with
      slotA := .erased, operation := some (.erase .b), eraseQueued := false, elapsed := 0 } } := by
  refine (if_pos hw).trans ?_
  rw [ho]

theorem effectOf_eraseCompletion_of_b (hw : p.works) (ho : p.jrn.operation = some (.erase .b)) :
    effectOf .eraseCompletion p = (Part.answerHeldClear { p with jrn := { p.jrn with
      slotB := .erased, operation := none, elapsed := 0 } }).onQuiet := by
  refine (if_pos hw).trans ?_
  rw [ho]

theorem effectOf_agedTimerExpiry (hw : p.works) (hdue : p.ntc.aged.isDue agedLimit = true) :
    effectOf .agedTimerExpiry p = { p with ntc := { p.ntc with attn := true, aged := .stopped } } := if_pos ⟨hw, hdue⟩

theorem effectOf_agedTimerExpiry_of_not_due (h : p.ntc.aged.isDue agedLimit ≠ true) :
    effectOf .agedTimerExpiry p = p := if_neg fun k => h k.2

end Completions

/-- Settles O54: the read-back, then what follows it; QUIET, the erases, the aged timer and the start read each by its
own equation. -/
theorem journalCompletions : Obligations.JournalCompletions := by
  refine ⟨fun s n r c hw ho => ?_, fun p q hq => ?_, fun s n hw => ⟨fun ho => ?_, fun ho => ?_, fun ht hn => ?_,
    fun ht hn => ?_, fun hread => ?_⟩⟩
  · intro good bad told
    refine ⟨fun hcheck hrange hown hpending => exec_writeCompletion hw ho ?_,
      fun hcheck hrange hown hpending hc => exec_writeCompletion hw ho ?_,
      fun hretry hpending => exec_writeCompletion hw ho ?_, fun hretry hpending hc => exec_writeCompletion hw ho ?_,
      fun hretry hc => exec_writeCompletion hw ho ?_⟩
    · rw [Part.readBack_of_valid hcheck hrange hown]
      exact Part.nextWrite_of_none (by simpa using hpending)
    · rw [Part.readBack_of_valid hcheck hrange hown]
      exact Part.nextWrite_of_pending (by simpa using hpending) hc
    · rw [Part.readBack_of_torn, Journal.writeTorn_of_retry hretry]
      exact Part.nextWrite_of_none (by simpa using hpending)
    · rw [Part.readBack_of_torn, Journal.writeTorn_of_retry hretry]
      exact Part.nextWrite_of_pending (by simpa using hpending) hc
    · rw [Part.readBack_of_torn, Journal.writeTorn_of_first hretry]
      exact Part.nextWrite_of_pending rfl hc
  · subst hq
    exact ⟨fun hheld hrun => if_pos ⟨hheld, hrun⟩, fun h => if_neg (not_and_or.mpr h)⟩
  · exact exec_eq_of_effect (effectOf_eraseCompletion_of_a hw ho)
  · refine exec_eq_of_effect ((effectOf_eraseCompletion_of_b hw ho).trans ?_)
    rw [Part.answerHeldClear_eq]
  · exact exec_eq_of_effect (effectOf_agedTimerExpiry hw (Timer.isDue_of_running ht hn))
  · exact exec_eq_self (effectOf_agedTimerExpiry_of_not_due (Timer.not_isDue_of_running ht hn))
  · obtain ⟨hstored, hline, hroster, hsup, hinp, hpins, hstation⟩ := effectOf_startReadComplete_blocks hw hread
    have hkept {α : Type} (field : Journal → α) : field (effectOf .startReadComplete s.toPart).jrn.stored =
        field (s.jrn.readIn s.station).stored := congrArg field hstored
    exact ⟨_, exec_eq_of_effect rfl, hkept (·.startRead), hkept (·.newest), hkept (·.newestSequence), hkept (·.tornA),
      hkept (·.tornB), hkept (·.slotA), hkept (·.slotB), hline, hroster, hsup, hinp, hpins, hstation, rfl⟩

end Sys2Proof.Machine

namespace Sys2Proof.Machine

/-! ### A checkpoint request and the write it begins -/

section Request
variable {p : Part} {c : Configuration}

theorem Part.requestCheckpoint_of_unconfigured (hc : p.ctl.config = none) : p.requestCheckpoint = p := by
  rw [Part.requestCheckpoint, hc]

theorem Part.requestCheckpoint_of_idle (hc : p.ctl.config = some c) (ho : p.jrn.operation = none) :
    p.requestCheckpoint = p.beginWrite c := by
  rw [Part.requestCheckpoint, hc]
  exact if_pos ho

theorem Part.requestCheckpoint_of_busy (hc : p.ctl.config = some c) (ho : p.jrn.operation ≠ none) :
    p.requestCheckpoint = { p with jrn := { p.jrn with pendingWrite := true } } := by
  rw [Part.requestCheckpoint, hc]
  exact if_neg ho

end Request

/-! #### The slot and the sequence -/

section Written
variable {j : Journal}

theorem Journal.writeSlot_of_none (h : j.newest = none) : j.writeSlot = .a := by rw [Journal.writeSlot, h]

theorem Journal.writeSlot_of_newest {n : SlotName} (h : j.newest = some n) : j.writeSlot = n.other := by
  rw [Journal.writeSlot, h]

theorem Journal.writeSequence_of_none (h : j.newestSequence = none) : j.writeSequence = 1 := by
  rw [Journal.writeSequence, h]

theorem Journal.writeSequence_of_newest {q : BitVec 32} (h : j.newestSequence = some q) :
    j.writeSequence = q + 1 := by rw [Journal.writeSequence, h]

end Written

/-! #### The record -/

/-- The check does not cover itself (R132). -/
theorem Record.bytes_setCheck (r : Record) (x : BitVec 32) : ({ r with check := x } : Record).bytes = r.bytes := rfl

/-- Records equal in every other field have one check between them, whatever the check's function is (R132, log 10). -/
theorem Record.eq_of_checkAgrees {x y : Record} (hfields : x = { y with check := x.check }) (hx : x.checkAgrees)
    (hy : y.checkAgrees) : x = y := by
  have hbytes : x.bytes = y.bytes := (congrArg Record.bytes hfields).trans (y.bytes_setCheck x.check)
  have hcheck : x.check = y.check := calc
    x.check = Config.checkpointCheck x.bytes := hx
    _ = Config.checkpointCheck y.bytes := by rw [hbytes]
    _ = y.check := hy.symm
  rw [hfields, hcheck]

theorem Part.composeRecord_checkAgrees (p : Part) (c : Configuration) : (p.composeRecord c).checkAgrees := rfl

/-- The record of the moment is the one whose fields are the state's and whose check agrees with them (R136). -/
theorem Part.composeRecord_eq {p : Part} {c : Configuration} {r : Record}
    (hfields : r = { p.composeRecord c with check := r.check }) (hcheck : r.checkAgrees) : p.composeRecord c = r :=
  (Record.eq_of_checkAgrees hfields hcheck (p.composeRecord_checkAgrees c)).symm

/-- Settles O53: the request by whether there is a configuration and whether the journal is IDLE; of the write that
begins, the record by its fields and the slot by which one is newest. -/
theorem checkpointRequest : Obligations.CheckpointRequest := by
  refine fun p c r => ⟨Part.requestCheckpoint_of_unconfigured, Part.requestCheckpoint_of_busy,
    Part.requestCheckpoint_of_idle, fun hfields hcheck => ?_⟩
  have hrecord : p.composeRecord c = r := by
    refine Part.composeRecord_eq (hfields.trans ?_) hcheck
    cases hq : p.jrn.newestSequence with
    | none => simp only [Part.composeRecord, Journal.writeSequence_of_none hq]
    | some q => simp only [Part.composeRecord, Journal.writeSequence_of_newest hq]
  rw [Part.beginWrite, hrecord]
  cases hn : p.jrn.newest with
  | none => rw [Journal.writeSlot_of_none hn]
  | some n =>
    rw [Journal.writeSlot_of_newest hn]
    cases n <;> rfl

end Sys2Proof.Machine

namespace Sys2Proof.Machine

/-! ### The placement of the cycle -/

/-! #### What the outage leaves -/

theorem leftAfter_eq (x : Nat) (outage : Option Nat) :
    leftAfter x outage = if classOf outage = .long then 0 else x - outage.getD 0 := by
  cases outage with
  | none => rfl
  | some t => cases h : classOf (some t) <;> simp [leftAfter, h]

theorem Record.windowAfterCooling_eq (r : Record) (outage : Option Nat) : r.windowAfterCooling outage =
    if classOf outage = .long then 0
    else (Program.shown r.program).window * 60 - (outage.getD 0 - r.remainingCool) := by
  cases outage with
  | none => rfl
  | some t => cases h : classOf (some t) <;> simp [Record.windowAfterCooling, h]

/-! #### The placement by the phase of the record -/

section Place
variable {r : Record} {outage : Option Nat} {latch : Bool} {count : Nat}

theorem Record.place_of_idle (h : r.phase = .idle) : r.place outage latch count = .asRecorded := by
  rw [Record.place, h]

theorem Record.place_of_halted (h : r.phase = .halted) :
    r.place outage latch count = if latch = true then .ended .faulted else .asRecorded := by
  rw [Record.place, h]

theorem Record.place_of_drying
    (h : r.phase = .dry ∨ ((r.phase = .startWait ∨ r.phase = .spinup) ∧ r.target = .dry)) :
    r.place outage latch count = r.placeDrying outage latch := by
  rcases h with h | ⟨h | h, ht⟩
  · rw [Record.place, h]
  · simp only [Record.place, h, ht, reduceCtorEq, if_false]
  · simp only [Record.place, h, ht, reduceCtorEq, if_false]

theorem Record.place_of_cooling
    (h : r.phase = .cool ∨ ((r.phase = .startWait ∨ r.phase = .spinup) ∧ r.target = .cool)) :
    r.place outage latch count = r.placeCooling outage latch := by
  rcases h with h | ⟨h | h, ht⟩
  · rw [Record.place, h]
  · simp only [Record.place, h, ht, if_true]
  · simp only [Record.place, h, ht, if_true]

theorem Record.place_of_tumbling (h : r.phase = .rest ∨ r.phase = .burstWait ∨ r.phase = .burst) :
    r.place outage latch count = r.placeTumbling outage latch count := by
  rcases h with h | h | h
  · rw [Record.place, h]
  · rw [Record.place, h]
  · rw [Record.place, h]

/-- The limit and the class LONG both decline a drying load (R153, cases 2 and 3). -/
theorem Record.placeDrying_eq : r.placeDrying outage latch =
    if latch = true then .ended .abandoned
    else if r.atLimit ∨ classOf outage = .long then .ended .declined
    else if classOf outage = .short then .continued .startWait .dry r.remainingDry 0 0
    else .continued .startWait .dry
      (min (r.remainingDry + r.config.reheat * 60) ((Program.shown r.program).dryTime * 60)) 0 0 := by
  rw [Record.placeDrying, ite_or]
  cases classOf outage <;> rfl

/-- A program without a window and a window that has run out both end a cooled load (R154, cases 4 and 5). -/
theorem Record.placeCooling_eq : r.placeCooling outage latch =
    if latch = true then .ended .collected
    else if 0 < leftAfter r.remainingCool outage then
      (if r.atLimit then .ended .declined
      else .continued .startWait .cool r.remainingDry (leftAfter r.remainingCool outage) 0)
    else if (Program.shown r.program).window = 0 ∨ r.windowAfterCooling outage = 0 then .ended r.completion
    else if r.atLimit then .ended .declined
    else .continued .burstWait .none r.remainingDry 0 (r.windowAfterCooling outage) := by
  rw [Record.placeCooling, ite_or]

theorem Record.placeTumbling_of_latch (hl : latch = true) :
    r.placeTumbling outage latch count = .ended .collected := if_pos hl

theorem Record.placeTumbling_of_over (hl : latch = false) (hw : leftAfter r.windowRemaining outage = 0) :
    r.placeTumbling outage latch count = .ended r.completion := by
  rw [Record.placeTumbling, if_neg (Bool.eq_false_iff.mp hl), if_pos hw]

theorem Record.placeTumbling_of_atLimit (hl : latch = false) (hw : 0 < leftAfter r.windowRemaining outage)
    (hlimit : r.atLimit) : r.placeTumbling outage latch count = .ended .declined := by
  rw [Record.placeTumbling, if_neg (Bool.eq_false_iff.mp hl), if_neg hw.ne', if_pos hlimit]

theorem Record.placeTumbling_of_continued (hl : latch = false) (hw : 0 < leftAfter r.windowRemaining outage)
    (hlimit : ¬ r.atLimit) : ∃ dry cool, r.placeTumbling outage latch count =
      .continued .burstWait .none dry cool (leftAfter r.windowRemaining outage) := by
  rw [Record.placeTumbling, if_neg (Bool.eq_false_iff.mp hl), if_neg hw.ne', if_neg hlimit]
  exact ⟨_, _, rfl⟩

end Place

/-- Settles O52: the placement by the phase of the record and that phase's cases in their order, then the cycle engine
of each placement. -/
theorem placements : Obligations.Placements := by
  intro r outage latch count drying cooling tumbling done left window
  have hleft (x : Nat) : left x = leftAfter x outage := (leftAfter_eq x outage).symm
  have hwindow : window = r.windowAfterCooling outage := (r.windowAfterCooling_eq outage).symm
  rw [hwindow, hleft, hleft]
  refine ⟨fun t => rfl, rfl, Record.place_of_idle, fun h => (Record.place_of_drying h).trans Record.placeDrying_eq,
    fun h => (Record.place_of_cooling h).trans Record.placeCooling_eq, fun h hl => ?_, fun h hl hw => ?_,
    fun h hl hw hlimit => ?_, fun h hl hw hlimit => ?_, Record.place_of_halted, fun h => if_neg ?_, fun h => if_pos h,
    fun o => rfl, fun phase target dry cool window => rfl⟩
  · exact (Record.place_of_tumbling h).trans (Record.placeTumbling_of_latch hl)
  · exact (Record.place_of_tumbling h).trans (Record.placeTumbling_of_over hl hw)
  · exact (Record.place_of_tumbling h).trans (Record.placeTumbling_of_atLimit hl hw hlimit)
  · rw [Record.place_of_tumbling h]
    exact Record.placeTumbling_of_continued hl hw (Nat.not_le.mpr hlimit)
  · rw [h]
    exact Phase.noConfusion

end Sys2Proof.Machine

namespace Sys2Proof.Machine

/-! ### The arrival of a notice and TAKE NOTICE -/

theorem NoticeKind.urgent_eq (k : NoticeKind) : k.urgent = decide (k = .fault ∨ k = .cycleEnd ∨ k = .resume) := by
  cases k <;> rfl

section Queue
variable {q : NoticeQueue} {n m : Notice} {rest : List Notice}

theorem NoticeQueue.arrive_of_room (h : q.queue.length < queueLimit) (trigger : Nat) (n : Notice) :
    q.arrive trigger n = { q with
      queue := q.queue ++ [n]
      attn := q.attn || n.kind.urgent || decide (trigger ≤ q.queue.length + 1)
      aged := if q.queue = [] then .running 0 else q.aged } := by
  rw [NoticeQueue.arrive, if_pos h]
  simp only [List.isEmpty_iff]

theorem NoticeQueue.arrive_of_full (h : queueLimit ≤ q.queue.length) (trigger : Nat) (n : Notice) :
    q.arrive trigger n = { q with overflow := true } := if_neg h.not_gt

theorem NoticeQueue.taken_of_empty (h : q.queue = []) : q.taken = { q with overflow := false } := by
  simp only [NoticeQueue.taken, h]

theorem NoticeQueue.taken_of_one (h : q.queue = [n]) : q.taken = ⟨[], false, false, .stopped⟩ := by
  simp only [NoticeQueue.taken, h]

theorem NoticeQueue.taken_of_more (h : q.queue = n :: m :: rest) :
    q.taken = { q with queue := m :: rest, aged := .running 0 } := by
  simp only [NoticeQueue.taken, h]

theorem NoticeQueue.takeBytes_of_empty (h : q.queue = []) : q.takeBytes = noNoticeBytes q.overflow := by
  simp only [NoticeQueue.takeBytes, h]

theorem NoticeQueue.takeBytes_of_cons (h : q.queue = n :: rest) : q.takeBytes = n.bytes q.overflow := by
  simp only [NoticeQueue.takeBytes, h]

end Queue

/-- TAKE NOTICE is answered at once, with what it takes from the queue and what it leaves there (R171). -/
theorem exec_takeNotice {s : State} (hw : s.works) (hx : s.port.state ≠ .executing) {left : NoticeQueue}
    {bytes : List Byte} (hleft : s.ntc.taken = left) (hbytes : s.ntc.takeBytes = bytes) :
    exec .takeNotice s = .next { s with ntc := left, port := ⟨.replyReady, none, 0 :: bytes, zeroBytes 1⟩ } := by
  subst hleft hbytes
  exact exec_eq_of_effect (Part.request_of_free 1 Part.runTakeNotice hw hx)

/-- Settles O33: an arrival by the room in the queue, and TAKE NOTICE by the number of notices queued. -/
theorem noticeArrivalAndTake : Obligations.NoticeArrivalAndTake := by
  refine ⟨fun q trigger n => ⟨fun hroom => ?_, fun hfull => NoticeQueue.arrive_of_full hfull trigger n⟩,
    fun p kind value fault code data n => ⟨rfl, rfl, rfl, rfl, rfl, rfl⟩,
    fun s hw hx => ⟨fun hempty => ?_, fun n hone => ?_, fun n m rest hmore => ?_, rfl, rfl⟩⟩
  · rw [NoticeQueue.arrive_of_room hroom, NoticeKind.urgent_eq]
  · exact exec_takeNotice hw hx (NoticeQueue.taken_of_empty hempty) (NoticeQueue.takeBytes_of_empty hempty)
  · exact exec_takeNotice hw hx (NoticeQueue.taken_of_one hone) (NoticeQueue.takeBytes_of_cons hone)
  · exact exec_takeNotice hw hx (NoticeQueue.taken_of_more hmore) (NoticeQueue.takeBytes_of_cons hmore)

end Sys2Proof.Machine

namespace Sys2Proof.Machine

/-! ### Every command: its outcome, its operands and its turn -/

/-- Settles O3: each command is a total effect on the part. -/
theorem execNeverStops : Obligations.ExecNeverStops := fun i s => ⟨effectOf i s.toPart, exec_eq_next i s⟩

/-- The five commands whose operands have a check apply it before anything else (log 2); no other command has operands
that fail one. -/
theorem effectOf_of_illFormed {i : Instr} (hi : i.wellFormed = false) (p : Part) : effectOf i p = p := by
  have hnot : ¬ i.wellFormed = true := Bool.eq_false_iff.mp hi
  cases i with
  | invalidKindAbandon kind => exact if_neg fun h => hnot h.1
  | closingSpacerEnd bits => exact if_neg fun h => hnot h.1
  | unknownCommand command => exact if_neg hnot
  | incompleteRequest command counted => exact if_neg hnot
  | requestWhileBusy bytes => exact if_neg fun h => hnot h.1
  | _ => exact absurd rfl hnot

/-- Settles O4. -/
theorem illFormedCommandsDoNothing : Obligations.IllFormedCommandsDoNothing :=
  fun _ s hi => exec_eq_self (effectOf_of_illFormed hi s.toPart)

theorem step_of_pending {s : State} {c : Instr} {rest : List Instr} (h : s.pending = c :: rest) :
    step s = exec c { s with pending := rest } := by
  rw [step, h]

/-- Settles O1. -/
theorem stepRunsTheFrontCommand : Obligations.StepRunsTheFrontCommand := fun _ _ => step_of_pending rfl

end Sys2Proof.Machine
